-- ==== Sys2Proof/Word.lean ====
section
/-! DEFINITION. The widths the block moves (20_memory.md R58, 00_scope.md R11): names only. -/

namespace Sys2Proof

/-- A command word or operand word, 16 bits (R51). -/
abbrev Word := BitVec 16

/-- A register parameter byte, 8 bits (R53). -/
abbrev Byte := BitVec 8

/-- A pixel buffer handle, an opaque 32-bit value (R61). -/
abbrev Handle := BitVec 32

end Sys2Proof
end

