-- ==== Sys2Proof/Config.lean ====
section
/-! DEFINITION. What an instance of the block fixes (00_scope.md R8) and what the spec leaves to the
environment's draws (R17). The constants without a body are free values: nothing can be proved of what they are. -/

namespace Sys2Proof.Config

/-- Which input source is connected, P_SOURCE (R8, 43_input.md R170). -/
inductive Source
  | coord
  | event
  deriving DecidableEq, Repr, Inhabited

/-- The transport's answer to one offered transaction (20_memory.md R54). -/
inductive Answer
  | ok
  | fail
  deriving DecidableEq, Repr, Inhabited

/-- One sample of the coordinate sensor (R59); coordinates are unsigned 16-bit. -/
inductive Sample
  | none
  | notReady
  | point (rx ry : BitVec 16)
  | list (points : List (BitVec 16 × BitVec 16))
  deriving DecidableEq, Repr, Inhabited

/-- One event of the event source (R60). -/
inductive Event
  | none
  | notReady
  | buttonDown (primary : Bool) (ex ey : BitVec 16)
  | keyDown (key : BitVec 16)
  | other
  deriving DecidableEq, Repr, Inhabited

/-- The configuration parameters of R8, in the order of its table. -/
structure Params where
  /-- P_WIDTH -/
  width : Nat
  /-- P_HEIGHT -/
  height : Nat
  /-- P_OFFX -/
  offX : Nat
  /-- P_OFFY -/
  offY : Nat
  /-- P_BPP -/
  bpp : Nat
  /-- P_CBO, the colour byte order bit -/
  cbo : Bool
  /-- P_OT[0..3], the Orientation Table (R9: an open parameter) -/
  ot : Vector Byte 4
  /-- P_ORIENT_RESET -/
  orientReset : Int
  /-- P_TMASK_RESET, 0..7 by its type -/
  tmaskReset : BitVec 3
  /-- P_ROWS -/
  rows : Nat
  /-- P_COLS -/
  cols : Nat
  /-- P_KEYTAB, `none` for ABSENT -/
  keytab : Option (List (BitVec 16))
  /-- P_SOURCE -/
  source : Source
  deriving DecidableEq, Repr

/-- The column "legal values" of R8's table (the ranges that the fields' types do not already give). -/
def Params.legal (p : Params) : Bool :=
  decide (1 ≤ p.width ∧ p.width ≤ 65535) &&
  decide (1 ≤ p.height ∧ p.height ≤ 65535) &&
  decide (p.offX ≤ 65535) &&
  decide (p.offY ≤ 65535) &&
  decide (p.bpp % 8 = 0 ∧ 8 ≤ p.bpp ∧ p.bpp ≤ 248) &&
  decide (-4 ≤ p.orientReset ∧ p.orientReset ≤ 255) &&
  decide (1 ≤ p.rows ∧ p.rows ≤ 255) &&
  decide (1 ≤ p.cols ∧ p.cols ≤ 255) &&
  (match p.keytab with
   | .none => true
   | .some codes => decide (p.rows * p.cols ≤ codes.length))

/-- PIXEL_BYTES = P_BPP / 8 (R10); it enters no rule of the block. -/
def Params.pixelBytes (p : Params) : Nat := p.bpp / 8

/-- A configuration of which an instance exists: parameters in their legal ranges (R8). An illegal one has
no instance, so none can be built here. -/
structure Instantiation where
  params : Params
  legal : params.legal = true
  deriving DecidableEq, Repr

/-! ### The parameters of the instance that State.reset shows

R8 and R9 give no values, so each is an uninterpreted constant whose type is its legal range (log 2). -/

/-- P_WIDTH - 1 of the reset instance. -/
opaque widthPred : Fin 65535
/-- P_HEIGHT - 1 of the reset instance. -/
opaque heightPred : Fin 65535
/-- P_OFFX of the reset instance. -/
opaque offX : Fin 65536
/-- P_OFFY of the reset instance. -/
opaque offY : Fin 65536
/-- P_BPP / 8 - 1 of the reset instance. -/
opaque pixelBytesPred : Fin 31
/-- P_CBO of the reset instance. -/
opaque cbo : Bool
/-- P_OT of the reset instance (R9). -/
opaque ot : Vector Byte 4
/-- P_ORIENT_RESET + 4 of the reset instance. -/
opaque orientResetShifted : Fin 260
/-- P_TMASK_RESET of the reset instance. -/
opaque tmaskReset : BitVec 3
/-- P_ROWS - 1 of the reset instance. -/
opaque rowsPred : Fin 255
/-- P_COLS - 1 of the reset instance. -/
opaque colsPred : Fin 255
/-- Whether P_KEYTAB of the reset instance is a table. -/
opaque keytabPresent : Bool
/-- The entries of P_KEYTAB of the reset instance, when it is a table. -/
opaque keytabEntry : Nat → BitVec 16
/-- How many entries P_KEYTAB of the reset instance has beyond P_ROWS * P_COLS. -/
opaque keytabSpare : Nat
/-- P_SOURCE of the reset instance. -/
opaque source : Source

/-- The parameters of the instance that State.reset shows, each a free value in its legal range. -/
def openParams : Params where
  width := widthPred.val + 1
  height := heightPred.val + 1
  offX := offX.val
  offY := offY.val
  bpp := 8 * (pixelBytesPred.val + 1)
  cbo := cbo
  ot := ot
  orientReset := (orientResetShifted.val : Int) - 4
  tmaskReset := tmaskReset
  rows := rowsPred.val + 1
  cols := colsPred.val + 1
  keytab :=
    if keytabPresent then
      .some ((List.range ((rowsPred.val + 1) * (colsPred.val + 1) + keytabSpare)).map keytabEntry)
    else .none
  source := source

theorem openParams_legal : openParams.legal = true := by
  have hw := widthPred.isLt
  have hh := heightPred.isLt
  have hx := offX.isLt
  have hy := offY.isLt
  have hb := pixelBytesPred.isLt
  have ho := orientResetShifted.isLt
  have hr := rowsPred.isLt
  have hc := colsPred.isLt
  cases hk : keytabPresent <;> simp [openParams, Params.legal, hk] <;> omega

/-- The instance of State.reset (log 2). -/
def openInstantiation : Instantiation := ⟨openParams, openParams_legal⟩

/-! ### Draws of the environment and other free values -/

/-- The transport's n-th answer that no script gives (R54, I7; log 3). -/
opaque freeAnswer : Nat → Answer
/-- The sensor's n-th sample that no script gives (R59, I8; log 3). -/
opaque freeSample : Nat → Sample
/-- The event source's n-th event that no script gives (R60, I8; log 3). -/
opaque freeEvent : Nat → Event
/-- What the host's n-th register read returns at an unmapped index (10_state.md R39, I3; log 9). -/
opaque unmappedRead : Nat → BitVec 8 → BitVec 32
/-- The entry of the Orientation Table at an index beyond 3, where R101 defines none (log 10). -/
opaque noTableEntry : Nat → Byte
/-- The entry of P_KEYTAB at a cell beyond its end, where a legal table has none (log 12). -/
opaque noKeyEntry : Nat → BitVec 16

end Sys2Proof.Config
end

