-- ==== Sys2Proof/Syntax.lean ====
section
/-! DEFINITION. The nine commands of spec/opcode_table.json (30_encoding.md R74), one constructor a row,
and the lines of the assembler (R81). -/

namespace Sys2Proof

/-- A command with its operands assembled as R78 says. Every 16-bit value is a legal operand word (R79), so
the operands' types are their widths. -/
inductive Instr
  /-- SET_ORIENT value (R104); the value is signed. -/
  | setOrient (value : Word)
  /-- INIT (R106). -/
  | init
  /-- BLIT x, y, width, height, buf (R123). -/
  | blit (x y width height : Word) (buf : Handle)
  /-- SET_TROT degrees (R142); the degrees are signed. -/
  | setTrot (degrees : Word)
  /-- SET_TMASK mask (R143); all eight bits of IMM8 are kept here, the command drops bits 7:3. -/
  | setTmask (mask : BitVec 8)
  /-- TPOLL (R146). -/
  | tpoll
  /-- ZPOLL (R162). -/
  | zpoll
  /-- GPOLL (R166). -/
  | gpoll
  /-- EPOLL (R168). -/
  | epoll
  deriving DecidableEq, Repr

/-- One line of the assembler before its operands are range-checked (R81). -/
inductive AsmLine
  | setOrient (value : Int)
  | init
  | blit (x y width height buf : Int)
  | setTrot (degrees : Int)
  | setTmask (mask : Int)
  | tpoll
  | zpoll
  | gpoll
  | epoll
  deriving DecidableEq, Repr

end Sys2Proof
end

