-- ==== Sys2Proof/Machine/State.lean ====
section
/-! DEFINITION. The state of the block (10_state.md R23, R32) as plain data, with the model's own fields beside it
(log 1, log 3, log 4), the ways a step can stop, and reset (R36, R220). -/

namespace Sys2Proof.Machine

open Sys2Proof.Config

/-- A transaction offered to the transport (20_memory.md R53). -/
inductive Tx
  /-- WR(reg, bytes), a register parameter write -/
  | wr (reg : Byte) (bytes : List Byte)
  /-- PX(reg, buf, x1, y1, x2, y2), a pixel submission with the resolved window -/
  | px (reg : Byte) (buf : Handle) (x1 y1 x2 y2 : BitVec 16)
  deriving DecidableEq, Repr

/-- The environment's draws to come (00_scope.md R17; log 3). A draw is taken from its script; when the script has
run out it is the free value numbered `draws`, and `draws` advances. -/
structure Env where
  /-- the transport's next answers (R54) -/
  answers : List Answer
  /-- the coordinate sensor's next samples (R59) -/
  samples : List Sample
  /-- the event source's next events (R60) -/
  events : List Event
  /-- how many free draws have been taken -/
  draws : Nat
  deriving DecidableEq, Repr

/-- The state. The fields from `faulted` to `xerr` are R23's table in its order, `asm` is the assembly buffer of
R32; `cfg`, `port`, `env` and `history` are the model's own. -/
structure State where
  /-- the instance's configuration parameters; not state by R8, and no step changes it (log 1) -/
  cfg : Instantiation
  /-- FAULTED: a configuration error halted the engine (R24) -/
  faulted : Bool
  /-- FCAUSE: cause code of the fault (R24, R190) -/
  fcause : BitVec 8
  /-- FIDX: CIDX of the faulting command's header (R191) -/
  fidx : BitVec 32
  /-- FCMD: header word of the faulting command (R191) -/
  fcmd : Word
  /-- CIDX: command-word index of the next header (R21) -/
  cidx : BitVec 32
  /-- INIT: the display has completed initial setup (R25) -/
  init : Bool
  /-- ORIENT: the configured orientation value, signed (R26) -/
  orient : BitVec 16
  /-- TMASK: the rotation mask, bit 0 swap_xy, bit 1 invert_x, bit 2 invert_y (R27) -/
  tmask : BitVec 3
  /-- MAXX: max_x of the touch transform, signed (R28) -/
  maxx : BitVec 32
  /-- MAXY: max_y of the touch transform, signed (R28) -/
  maxy : BitVec 32
  /-- PT_VALID: the last poll produced a normalized point (R29) -/
  ptValid : Bool
  /-- PT_X, signed (R29) -/
  ptX : BitVec 32
  /-- PT_Y, signed (R29) -/
  ptY : BitVec 32
  /-- CODE_VALID: the last poll produced a logical input event (R30) -/
  codeValid : Bool
  /-- CODE (R30) -/
  code : BitVec 16
  /-- XERR: the last completed command ended by a transport failure (R31) -/
  xerr : Bool
  /-- the command assembly buffer: the words so far of a command not yet complete (R32) -/
  asm : List Word
  /-- words the host has written and the engine has not consumed (R51, R220) -/
  port : List Word
  /-- the environment's draws to come (R17; log 3) -/
  env : Env
  /-- the transactions offered so far, oldest first: an observer's record, never read back (R42; log 8) -/
  history : List Tx
  deriving DecidableEq, Repr

/-- Why `step` answers no next state: the two situations in which the spec says the engine has no step (log 5).
Neither is a fault of R190: those are next states, written by fault entry. -/
inductive Fault
  /-- FAULTED = 1: "it has no step", only reset continues (60_exceptions.md R192). Raised by `step`. Safe: nothing
  is said of what follows. -/
  | halted
  /-- No further word is at the port and the command is not complete: "the engine has no step: it holds", only a
  word written by the host lifts the hold (20_memory.md R52, R228). Raised by `step`. Safe: nothing is said of
  what follows. -/
  | holding
  deriving DecidableEq, Repr

/-- What is turned away without a meaning. -/
inductive Refusal
  /-- An instruction without a meaning, by its mnemonic. Raised by `exec`'s arms only; no arm does. Safe. -/
  | notModelled (mnemonic : String)
  /-- "a configuration outside a range is refused (no instance exists)" (00_scope.md R8, I11). Raised by
  `instantiate`. Safe. -/
  | illegalConfiguration
  deriving DecidableEq, Repr

/-- MAXX of R36 and R141: P_WIDTH - 1. -/
def maxXOf (c : Instantiation) : BitVec 32 := BitVec.ofInt 32 (c.params.width - 1)

/-- MAXY of R36 and R141: P_HEIGHT - 1. -/
def maxYOf (c : Instantiation) : BitVec 32 := BitVec.ofInt 32 (c.params.height - 1)

/-- The environment before its first draw, with nothing scripted (log 4). -/
def Env.unscripted : Env := { answers := [], samples := [], events := [], draws := 0 }

/-- The instance of configuration `c` right after reset: the values of R36. -/
def State.resetOf (c : Instantiation) : State where
  cfg := c
  faulted := false
  fcause := 0
  fidx := 0
  fcmd := 0
  cidx := 0
  init := false
  orient := BitVec.ofInt 16 c.params.orientReset
  tmask := c.params.tmaskReset
  maxx := maxXOf c
  maxy := maxYOf c
  ptValid := false
  ptX := 0
  ptY := 0
  codeValid := false
  code := 0
  xerr := false
  asm := []
  port := []
  env := Env.unscripted
  history := []

/-- The machine right after reset, its parameters the free values of Config (log 2). -/
def State.reset : State := State.resetOf openInstantiation

end Sys2Proof.Machine
end

