-- ==== Sys2Proof/Machine/Flags.lean ====
section
/-! DEFINITION. The status flags (10_state.md R34): the STATUS word, and the two result groups PT and CODE with
their valid flags (R29, R30). XERR is written by the transaction operations of Ops.lean and by `finish`. -/

namespace Sys2Proof.Machine

/-- The STATUS register of R38: bit 0 FAULTED, bit 1 INIT, bit 2 XERR, bit 3 PT_VALID, bit 4 CODE_VALID, the rest 0. -/
def statusWord (s : State) : BitVec 32 :=
  (0 : BitVec 27) ++ BitVec.ofBool s.codeValid ++ BitVec.ofBool s.ptValid ++ BitVec.ofBool s.xerr ++
    BitVec.ofBool s.init ++ BitVec.ofBool s.faulted

/-- PT_VALID, PT_X, PT_Y for a poll's point, all zero for "no touch" (R29). The exact coordinates are narrowed to
PT's 32 bits here (log 11). -/
def State.setPoint (s : State) : Option (Int × Int) → State
  | some (x, y) => { s with ptValid := true, ptX := BitVec.ofInt 32 x, ptY := BitVec.ofInt 32 y }
  | none => { s with ptValid := false, ptX := 0, ptY := 0 }

/-- CODE_VALID, CODE for a poll's logical input event, both zero for "no input" (R30). -/
def State.setCode (s : State) : Option (BitVec 16) → State
  | some c => { s with codeValid := true, code := c }
  | none => { s with codeValid := false, code := 0 }

end Sys2Proof.Machine
end

