-- ==== Sys2Proof/WellFormed.lean ====
section
/-! DEFINITION. What is well formed: a command's words against the opcode map (30_encoding.md R72 to R77), and an
assembler line against its operand ranges (R81). A term of Instr has no ill-formed form: its types carry the
ranges of R78, and R79 makes every operand word legal. -/

namespace Sys2Proof

/-- A row of the opcode map of R74. -/
structure OpcodeRow where
  mnemonic : String
  pattern : Word
  mask : Word
  words : Nat
  deriving DecidableEq, Repr

/-- The opcode map of R74. -/
def opcodeMap : List OpcodeRow :=
  [ ⟨"SET_ORIENT", 0x1000, 0xFFFF, 2⟩,
    ⟨"INIT", 0x1100, 0xFFFF, 1⟩,
    ⟨"BLIT", 0x1200, 0xFFFF, 7⟩,
    ⟨"SET_TROT", 0x2000, 0xFFFF, 2⟩,
    ⟨"SET_TMASK", 0x2100, 0xFF00, 1⟩,
    ⟨"TPOLL", 0x2200, 0xFFFF, 1⟩,
    ⟨"ZPOLL", 0x3000, 0xFFFF, 1⟩,
    ⟨"GPOLL", 0x3100, 0xFFFF, 1⟩,
    ⟨"EPOLL", 0x3200, 0xFFFF, 1⟩ ]

/-- A header word belongs to a row when the masked word is the row's pattern. -/
def OpcodeRow.accepts (r : OpcodeRow) (h : Word) : Bool := (h &&& r.mask) == r.pattern

/-- A legal header word (R79): some row accepts it. -/
def legalHeader (h : Word) : Bool := opcodeMap.any (·.accepts h)

/-- One whole command: a header some row accepts, followed by exactly that row's operand words (R70, R73). -/
def wellFormedCommand : List Word → Bool
  | [] => false
  | h :: operands => opcodeMap.any fun r => r.accepts h && r.words == operands.length + 1

/-- The operand ranges of R81; "an operand outside its range is an assembly error, not a command". -/
def AsmLine.wellFormed : AsmLine → Bool
  | .setOrient v => decide (-32768 ≤ v ∧ v ≤ 32767)
  | .blit x y w h buf =>
    decide (0 ≤ x ∧ x ≤ 65535) && decide (0 ≤ y ∧ y ≤ 65535) &&
    decide (0 ≤ w ∧ w ≤ 65535) && decide (0 ≤ h ∧ h ≤ 65535) &&
    decide (0 ≤ buf ∧ buf ≤ 0xFFFFFFFF)
  | .setTrot d => decide (-32768 ≤ d ∧ d ≤ 32767)
  | .setTmask m => decide (0 ≤ m ∧ m ≤ 255)
  | .init => true
  | .tpoll => true
  | .zpoll => true
  | .gpoll => true
  | .epoll => true

end Sys2Proof
end

