-- ==== Sys2Proof/Decode.lean ====
section
/-! DEFINITION. The decoder of R75, total on any words and rejecting by name, and after it the encoder (R72, R74,
R78). -/

namespace Sys2Proof

/-- The nine listed opcodes (R74). -/
inductive Opcode
  | setOrient | init | blit | setTrot | setTmask | tpoll | zpoll | gpoll | epoll
  deriving DecidableEq, Repr

/-- The four formats of R72. -/
inductive Format
  | f0 | fi | f1 | f6
  deriving DecidableEq, Repr

/-- The OPC column of R74. -/
def Opcode.code : Opcode → BitVec 8
  | .setOrient => 0x10
  | .init => 0x11
  | .blit => 0x12
  | .setTrot => 0x20
  | .setTmask => 0x21
  | .tpoll => 0x22
  | .zpoll => 0x30
  | .gpoll => 0x31
  | .epoll => 0x32

/-- The format column of R74. -/
def Opcode.format : Opcode → Format
  | .setOrient => .f1
  | .init => .f0
  | .blit => .f6
  | .setTrot => .f1
  | .setTmask => .fi
  | .tpoll => .f0
  | .zpoll => .f0
  | .gpoll => .f0
  | .epoll => .f0

/-- The operand word count k of a format (R75). -/
def Format.operandWords : Format → Nat
  | .f0 => 0
  | .fi => 0
  | .f1 => 1
  | .f6 => 6

/-- Header bits 15:8 (R71). -/
def headerOpc (h : Word) : BitVec 8 := h.extractLsb' 8 8

/-- Header bits 7:0 (R71). -/
def headerImm (h : Word) : BitVec 8 := h.extractLsb' 0 8

/-- The opcode an OPC value names, none where R76 makes it illegal. -/
def opcodeOf (opc : BitVec 8) : Option Opcode :=
  if opc = 0x10 then some .setOrient
  else if opc = 0x11 then some .init
  else if opc = 0x12 then some .blit
  else if opc = 0x20 then some .setTrot
  else if opc = 0x21 then some .setTmask
  else if opc = 0x22 then some .tpoll
  else if opc = 0x30 then some .zpoll
  else if opc = 0x31 then some .gpoll
  else if opc = 0x32 then some .epoll
  else none

/-- Why a header is illegal. -/
inductive IllegalHeader
  /-- OPC is not in the opcode map (R76). -/
  | unassignedOpcode
  /-- a listed OPC with a nonzero reserved IMM8 (R77). -/
  | reservedImmediate
  deriving DecidableEq, Repr

/-- What the words at the front of the command stream are. -/
inductive Decoded
  /-- a complete command, and the words after it -/
  | command (i : Instr) (rest : List Word)
  /-- an illegal header: complete at the header (R52, R76, R77), and the words after it -/
  | illegal (why : IllegalHeader) (header : Word) (rest : List Word)
  /-- words of the command are still missing (R52) -/
  | incomplete
  deriving DecidableEq, Repr

/-- Take the operand words of an opcode and assemble them (R78); none while some are missing. -/
def takeOperands : Opcode → BitVec 8 → List Word → Option (Instr × List Word)
  | .setOrient, _, v :: rest => some (.setOrient v, rest)
  | .init, _, rest => some (.init, rest)
  | .blit, _, x :: y :: w :: h :: hi :: lo :: rest => some (.blit x y w h (hi ++ lo), rest)
  | .setTrot, _, d :: rest => some (.setTrot d, rest)
  | .setTmask, imm, rest => some (.setTmask imm, rest)
  | .tpoll, _, rest => some (.tpoll, rest)
  | .zpoll, _, rest => some (.zpoll, rest)
  | .gpoll, _, rest => some (.gpoll, rest)
  | .epoll, _, rest => some (.epoll, rest)
  | .setOrient, _, [] => none
  | .setTrot, _, [] => none
  | .blit, _, _ => none

/-- Decode the words at the front of the command stream (R75). -/
def decode : List Word → Decoded
  | [] => .incomplete
  | h :: tail =>
    match opcodeOf (headerOpc h) with
    | none => .illegal .unassignedOpcode h tail
    | some o =>
      if o.format ≠ .fi ∧ headerImm h ≠ 0 then .illegal .reservedImmediate h tail
      else
        match takeOperands o (headerImm h) tail with
        | some (i, rest) => .command i rest
        | none => .incomplete

/-! ### The encoder -/

/-- The opcode of a command (R74). -/
def Instr.opcode : Instr → Opcode
  | .setOrient _ => .setOrient
  | .init => .init
  | .blit _ _ _ _ _ => .blit
  | .setTrot _ => .setTrot
  | .setTmask _ => .setTmask
  | .tpoll => .tpoll
  | .zpoll => .zpoll
  | .gpoll => .gpoll
  | .epoll => .epoll

/-- IMM8 of a command's header: the mask of SET_TMASK, zero in every other format (R72). -/
def Instr.imm8 : Instr → BitVec 8
  | .setOrient _ => 0
  | .init => 0
  | .blit _ _ _ _ _ => 0
  | .setTrot _ => 0
  | .setTmask mask => mask
  | .tpoll => 0
  | .zpoll => 0
  | .gpoll => 0
  | .epoll => 0

/-- The header word, OPC in bits 15:8 and IMM8 in bits 7:0 (R71). -/
def Instr.header (i : Instr) : Word := i.opcode.code ++ i.imm8

/-- The operand words in order (R78; the buffer handle's high half first, R64). -/
def Instr.operands : Instr → List Word
  | .setOrient v => [v]
  | .init => []
  | .blit x y w h buf => [x, y, w, h, buf.extractLsb' 16 16, buf.extractLsb' 0 16]
  | .setTrot d => [d]
  | .setTmask _ => []
  | .tpoll => []
  | .zpoll => []
  | .gpoll => []
  | .epoll => []

/-- The words of a command (R70). -/
def encode (i : Instr) : List Word := i.header :: i.operands

/-- How many words a command has, from its opcode alone (R73, R80). -/
def Instr.words (i : Instr) : Nat := 1 + i.opcode.format.operandWords

/-! ### The opcode table's rows as words -/

/-- The command words whose bits are the low `nbits` bits of `w`, the first word's least significant bit being
bit 0: as many words as the longest command has (seven, R70), the bits above `nbits` zero. -/
def tableWords (nbits w : Nat) : List Word :=
  [0, 16, 32, 48, 64, 80, 96].map fun at_ => BitVec.ofNat 16 ((w % 2 ^ nbits) >>> at_)

/-- The command the decoder reads from an opcode-table row's bits. -/
def decodeTableWord (nbits w : Nat) : Option Instr :=
  match decode (tableWords nbits w) with
  | .command i _ => some i
  | .illegal _ _ _ => none
  | .incomplete => none

end Sys2Proof
end

