-- ==== Sys2Proof/Machine/Operands.lean ====
section
/-! DEFINITION. The operand forms of 30_encoding.md R78, exact division (00_scope.md R12) and the byte orders of
20_memory.md R56, R62. -/

namespace Sys2Proof.Machine

open Sys2Proof.Config

/-- `sext_32(op[i])` read as a signed integer: the value of SET_ORIENT and the degrees of SET_TROT (R78). -/
def signedOperand (w : Word) : Int := w.toInt

/-- `zext_32(op[i])` read as an integer: x, y, width, height of BLIT (R78). -/
def unsignedOperand (w : Word) : Int := (w.toNat : Int)

/-- The mask SET_TMASK uses of its IMM8: bits 2:0 (R78). -/
def maskOperand (imm : BitVec 8) : BitVec 3 := imm.extractLsb' 0 3

/-- `a // b` of R12 for b > 0: the greatest integer q with q * b <= a. -/
def floorDiv (a b : Int) : Int := a / b

/-- `a mod b` of R12 for b > 0: a - b * (a // b), in 0..b-1. -/
def floorMod (a b : Int) : Int := a - b * floorDiv a b

/-- Two bytes of a 16-bit value, high byte first: the order of an address in a parameter list (R56, R122) and of
a command word over a byte-wide link (R62). -/
def bigEndian (v : BitVec 16) : List Byte := [v.extractLsb' 8 8, v.extractLsb' 0 8]

/-- The parameter list of an address window from start to end, `[(hi,lo,hi,lo)]` (R122). -/
def windowBytes (first last : BitVec 16) : List Byte := bigEndian first ++ bigEndian last

/-- The command words carried by bytes of a byte-wide link, high byte of each word first (R62). DESIGN CHOICE, unsafe
(log 20): a last byte without its partner gives no word and is dropped, not held for a partner in a later write. -/
def linkWords : List Byte → List Word
  | hi :: lo :: more => (hi ++ lo) :: linkWords more
  | [_] => []
  | [] => []

end Sys2Proof.Machine
end

