-- ==== Sys2Proof/Machine/Ops.lean ====
section
/-! DEFINITION. The named operations over the state that the commands share: fault entry, the transport's and the
input port's draws, the completion of a command. -/

namespace Sys2Proof.Machine

open Sys2Proof.Config

/-- The fault causes of 60_exceptions.md R190. -/
inductive FaultCause
  | illegalCmd
  | orientIndex
  | orientRange
  | windowRange
  | cellRange
  | sourceAbsent
  deriving DecidableEq, Repr

/-- The FCAUSE codes of R190. -/
def FaultCause.code : FaultCause → BitVec 8
  | .illegalCmd => 0x01
  | .orientIndex => 0x02
  | .orientRange => 0x03
  | .windowRange => 0x04
  | .cellRange => 0x05
  | .sourceAbsent => 0x06

/-- Fault entry (R191), `raise Fault(c)` of the command whose header word is `h`: the fault record is written,
nothing else is, and CIDX stays at the faulting header. There is no return from it but reset (R203). -/
def State.raiseFault (s : State) (c : FaultCause) (h : Word) : State :=
  { s with faulted := true, fcause := c.code, fidx := s.cidx, fcmd := h }

/-- A command with `k` operand words completes: CIDX <- (CIDX + 1 + k) mod 2^32 (10_state.md R22). -/
def State.advance (s : State) (k : Nat) : State := { s with cidx := s.cidx + BitVec.ofNat 32 (1 + k) }

/-- A command that offers no transaction completes: XERR <- 0, and CIDX advances past `k` operand words (R31, R22). -/
def State.finish (s : State) (k : Nat) : State := { s with xerr := false }.advance k

/-! ### Draws of the environment (R17; log 3) -/

/-- The transport's next answer (20_memory.md R54). -/
def Env.nextAnswer (e : Env) : Answer :=
  match e.answers with
  | a :: _ => a
  | [] => freeAnswer e.draws

/-- The environment after the transport has answered once. -/
def Env.afterAnswer (e : Env) : Env :=
  match e.answers with
  | _ :: more => { e with answers := more }
  | [] => { e with draws := e.draws + 1 }

/-- The sensor's next sample (R59). -/
def Env.nextSample (e : Env) : Sample :=
  match e.samples with
  | x :: _ => x
  | [] => freeSample e.draws

/-- The environment after the sensor has been read once: a read consumes the sample (R59). -/
def Env.afterSample (e : Env) : Env :=
  match e.samples with
  | _ :: more => { e with samples := more }
  | [] => { e with draws := e.draws + 1 }

/-- The event source's next event (R60). -/
def Env.nextEvent (e : Env) : Event :=
  match e.events with
  | x :: _ => x
  | [] => freeEvent e.draws

/-- The environment after the event source has been read once: a read consumes the event (R60). -/
def Env.afterEvent (e : Env) : Env :=
  match e.events with
  | _ :: more => { e with events := more }
  | [] => { e with draws := e.draws + 1 }

/-- The state after the sensor has been read once. -/
def State.sampleRead (s : State) : State := { s with env := s.env.afterSample }

/-- The state after the event source has been read once. -/
def State.eventRead (s : State) : State := { s with env := s.env.afterEvent }

/-! ### Transactions -/

/-- `Emit(t)` (R54), the state part: `t` is offered and the transport answers once. The answer is
`s.env.nextAnswer`. -/
def State.emit (s : State) (t : Tx) : State :=
  { s with history := s.history ++ [t], env := s.env.afterAnswer }

/-- Offer transactions in order until one is answered FAIL: then XERR <- 1 and no further one is offered
(60_exceptions.md R200, 20_memory.md R55). -/
def State.offer (s : State) : List Tx → State
  | [] => s
  | t :: more =>
    match s.env.nextAnswer with
    | .ok => (s.emit t).offer more
    | .fail => { s.emit t with xerr := true }

/-- XERR <- 0, then the command's transactions in order (the pseudocode of R104, R106, R123). -/
def State.transact (s : State) (ts : List Tx) : State := { s with xerr := false }.offer ts

/-- A poll's source check (43_input.md R170): the poll runs when its source is P_SOURCE and faults SOURCE_ABSENT,
before any read, when it is not. -/
def State.requireSource (s : State) (src : Source) (h : Word) (poll : State) : State :=
  if s.cfg.params.source = src then poll else s.raiseFault .sourceAbsent h

end Sys2Proof.Machine
end

