-- ==== Sys2Proof/Machine/Addressing.lean ====
section
/-! DEFINITION. The Addressing Engine unit (41_addressing.md): the window and BLIT. -/

namespace Sys2Proof.Machine

open Sys2Proof.Config

/-- The column-address register identifier (R123). -/
def regColumn : Byte := 0x2A

/-- The row-address register identifier (R123). -/
def regRow : Byte := 0x2B

/-- The memory-write register identifier (R123). -/
def regMemoryWrite : Byte := 0x2C

/-- A blit's window in exact integers (R120). -/
structure Window where
  x1 : Int
  y1 : Int
  x2 : Int
  y2 : Int
  deriving DecidableEq, Repr

/-- The window of a rectangle (R120). -/
def windowOf (p : Params) (x y width height : Int) : Window where
  x1 := x + p.offX
  y1 := y + p.offY
  x2 := x + p.offX + width - 1
  y2 := y + p.offY + height - 1

/-- An address that fits in 16 bits (R121). -/
abbrev Addressable (a : Int) : Prop := 0 ≤ a ∧ a ≤ 65535

/-- A legal window (R121): each of x1, x2, y1, y2 lies in 0..65535. Nothing asks that x1 <= x2 (R128). -/
abbrev Window.Legal (w : Window) : Prop :=
  Addressable w.x1 ∧ Addressable w.x2 ∧ Addressable w.y1 ∧ Addressable w.y2

/-- The window of a BLIT's operands. -/
def blitWindow (p : Params) (x y width height : Word) : Window :=
  windowOf p (unsignedOperand x) (unsignedOperand y) (unsignedOperand width) (unsignedOperand height)

/-- The three transactions of a blit in order (R123, R125): column address, row address, pixels. -/
def blitTransactions (w : Window) (buf : Handle) : List Tx :=
  let x1 := BitVec.ofInt 16 w.x1
  let x2 := BitVec.ofInt 16 w.x2
  let y1 := BitVec.ofInt 16 w.y1
  let y2 := BitVec.ofInt 16 w.y2
  [ .wr regColumn (windowBytes x1 x2),
    .wr regRow (windowBytes y1 y2),
    .px regMemoryWrite buf x1 y1 x2 y2 ]

/-- BLIT (R123): the window is checked before anything is offered; the first FAIL ends its transactions (R127);
INIT is not read (R129) and no window is kept (R124). -/
def execBlit (x y width height : Word) (buf : Handle) (s : State) : Host.Outcome State Fault Refusal :=
  .next <|
    if (blitWindow s.cfg.params x y width height).Legal then
      (s.transact (blitTransactions (blitWindow s.cfg.params x y width height) buf)).advance 6
    else s.raiseFault .windowRange (Instr.blit x y width height buf).header

end Sys2Proof.Machine
end

