-- ==== Sys2Proof/Machine/Touch.lean ====
section
/-! DEFINITION. The Touch Normalizer unit (42_touch.md): the mask table, the transform, SET_TROT, SET_TMASK, TPOLL. -/

namespace Sys2Proof.Machine

open Sys2Proof.Config

/-- The rotation-mask table TMTAB (R140), for 0, 90, 180 and 270 degrees. -/
def rotationMasks : Vector (BitVec 3) 4 := #v[0b000, 0b101, 0b110, 0b011]

/-- The index of a degree value: `(d // 90) mod 4` (R142). -/
def rotationIndex (d : Int) : Fin 4 := Fin.ofNat 4 (floorMod (floorDiv d 90) 4).toNat

/-- `SetMask(m)` (R141): the mask is set and max_x, max_y are recomputed. -/
def State.setMask (s : State) (m : BitVec 3) : State :=
  { s with tmask := m, maxx := maxXOf s.cfg, maxy := maxYOf s.cfg }

/-- `Normalize(rx, ry)` (R144): swap, then invert x, then invert y, in exact integers. -/
def State.normalize (s : State) (rx ry : Int) : Int × Int :=
  let p := if s.tmask[0] then (ry, rx) else (rx, ry)
  ( if s.tmask[1] then s.maxx.toInt - p.1 else p.1,
    if s.tmask[2] then s.maxy.toInt - p.2 else p.2 )

/-- The raw point a sample carries (R145): the point itself or the first of a list; "no touch" for NONE, NOT_READY
and the empty list. -/
def samplePoint : Sample → Option (BitVec 16 × BitVec 16)
  | .none => none
  | .notReady => none
  | .point rx ry => some (rx, ry)
  | .list [] => none
  | .list (p :: _) => some p

/-- `Acquire()` (R145), the answer: the next sample's point, normalized, none for NOTOUCH. The state after it is
`s.sampleRead`. -/
def State.acquired (s : State) : Option (Int × Int) :=
  match samplePoint s.env.nextSample with
  | some (rx, ry) => some (s.normalize (unsignedOperand rx) (unsignedOperand ry))
  | none => none

/-- SET_TROT (R142). -/
def execSetTrot (degrees : Word) (s : State) : Host.Outcome State Fault Refusal :=
  .next ((s.setMask rotationMasks[rotationIndex (signedOperand degrees)]).finish 1)

/-- SET_TMASK (R143). -/
def execSetTmask (mask : BitVec 8) (s : State) : Host.Outcome State Fault Refusal :=
  .next ((s.setMask (maskOperand mask)).finish 0)

/-- TPOLL (R146). -/
def execTpoll (s : State) : Host.Outcome State Fault Refusal :=
  .next (s.requireSource .coord Instr.tpoll.header (((s.sampleRead.setPoint s.acquired).setCode none).finish 0))

end Sys2Proof.Machine
end

