-- ==== Sys2Proof/Machine/Discretizer.lean ====
section
/-! DEFINITION. The Input Discretizer unit (43_input.md): the zone reducer, the grid reducer, the event
pass-through, ZPOLL, GPOLL, EPOLL. -/

namespace Sys2Proof.Machine

open Sys2Proof.Config

/-- The three bands of a dimension (R160). -/
inductive Band
  | first
  | middle
  | last
  deriving DecidableEq, Repr

/-- `Band(v, size)` (R160): exact comparison with the thirds; a boundary is in the middle band. -/
def band (v : Int) (size : Nat) : Band :=
  if 3 * v < size then .first
  else if 2 * (size : Int) < 3 * v then .last
  else .middle

/-- The zone table ZT[r][c] of R161, row band first. -/
def zoneCode : Band → Band → BitVec 16
  | .first, .first => 7
  | .first, .middle => 8
  | .first, .last => 9
  | .middle, .first => 4
  | .middle, .middle => 5
  | .middle, .last => 6
  | .last, .first => 1
  | .last, .middle => 2
  | .last, .last => 3

/-- `Zone(x, y)` (R161). -/
def zone (p : Params) (x y : Int) : BitVec 16 := zoneCode (band y p.height) (band x p.width)

/-- The grid row of a y coordinate (R163). -/
def gridRow (p : Params) (y : Int) : Int := floorDiv (y * p.rows) p.height

/-- The grid column of an x coordinate (R163). -/
def gridCol (p : Params) (x : Int) : Int := floorDiv (x * p.cols) p.width

/-- The row and column are in the grid (R163). -/
abbrev InGrid (p : Params) (x y : Int) : Prop :=
  (0 ≤ gridRow p y ∧ gridRow p y < p.rows) ∧ (0 ≤ gridCol p x ∧ gridCol p x < p.cols)

/-- The code of a cell (R165): cell + 1, or the key table's entry. A legal table has an entry for every cell (R8),
so the free value below is never reached (log 12). -/
def cellCode (p : Params) (cell : Nat) : BitVec 16 :=
  match p.keytab with
  | none => BitVec.ofNat 16 (cell + 1)
  | some codes => codes.getD cell (noKeyEntry cell)

/-- `Grid(x, y)` (R163): the grid code, none where it raises CELL_RANGE. -/
def grid (p : Params) (x y : Int) : Option (BitVec 16) :=
  if InGrid p x y then some (cellCode p (gridRow p y * p.cols + gridCol p x).toNat) else none

/-- What a reduction gives. -/
inductive Reduced
  /-- a logical input event with its code -/
  | code (c : BitVec 16)
  /-- "no input" (R169) -/
  | noInput
  /-- the point is outside the grid: CELL_RANGE (R164) -/
  | cellRange
  deriving DecidableEq, Repr

/-- The grid reduction of a point. -/
def reduceGrid (p : Params) (x y : Int) : Reduced :=
  match grid p x y with
  | some c => .code c
  | none => .cellRange

/-- Event reduction (R167, the cases of R168): positions are used as given, key codes are forwarded. -/
def reduceEvent (p : Params) : Event → Reduced
  | .buttonDown true ex ey => reduceGrid p (unsignedOperand ex) (unsignedOperand ey)
  | .keyDown key => .code key
  | .none => .noInput
  | .notReady => .noInput
  | .buttonDown false _ _ => .noInput
  | .other => .noInput

/-- The grid reduction of a poll's point, "no input" for no touch (R166). -/
def reduceTouch (p : Params) : Option (Int × Int) → Reduced
  | some (x, y) => reduceGrid p x y
  | none => .noInput

/-- Write a reduction's result beside the poll's point and complete, or fault CELL_RANGE with nothing but the
fault record written (R166, R168, R191). -/
def State.settleReduction (s : State) (point : Option (Int × Int)) (h : Word) : Reduced → State
  | .code c => ((s.setPoint point).setCode (some c)).finish 0
  | .noInput => ((s.setPoint point).setCode none).finish 0
  | .cellRange => s.raiseFault .cellRange h

/-- ZPOLL's writes after the read (R162): the zone is that of the point as PT_X and PT_Y hold it. -/
def State.settleZone (s : State) : Option (Int × Int) → State
  | some pt =>
    ((s.setPoint (some pt)).setCode
      (some (zone s.cfg.params (s.setPoint (some pt)).ptX.toInt (s.setPoint (some pt)).ptY.toInt))).finish 0
  | none => ((s.setPoint none).setCode none).finish 0

/-- ZPOLL (R162). -/
def execZpoll (s : State) : Host.Outcome State Fault Refusal :=
  .next (s.requireSource .coord Instr.zpoll.header (s.sampleRead.settleZone s.acquired))

/-- GPOLL (R166): a CELL_RANGE fault comes after the read, which is consumed all the same. -/
def execGpoll (s : State) : Host.Outcome State Fault Refusal :=
  .next (s.requireSource .coord Instr.gpoll.header
    (s.sampleRead.settleReduction s.acquired Instr.gpoll.header (reduceTouch s.cfg.params s.acquired)))

/-- EPOLL (R168): every completed EPOLL clears PT. -/
def execEpoll (s : State) : Host.Outcome State Fault Refusal :=
  .next (s.requireSource .event Instr.epoll.header
    (s.eventRead.settleReduction none Instr.epoll.header (reduceEvent s.cfg.params s.env.nextEvent)))

end Sys2Proof.Machine
end

