-- ==== Sys2Proof/Machine/Orientation.lean ====
section
/-! DEFINITION. The Orientation Table unit (40_orientation.md): the lookup, SET_ORIENT and INIT. -/

namespace Sys2Proof.Machine

open Sys2Proof.Config

/-- The memory-access-control register identifier (R4, R101). -/
def regMadctl : Byte := 0x36

/-- CBO_BITS = P_CBO << 3 (00_scope.md R8): the colour-order bit is bit 3. -/
def cboBits (p : Params) : Byte := BitVec.ofNat 8 (p.cbo.toNat <<< 3)

/-- P_OT[index] (R102); at an index beyond 3, which only an ORIENT that no run reaches would give, a free value
(log 10). -/
def tableEntry (p : Params) (index : Nat) : Byte :=
  match p.ot[index]? with
  | some b => b
  | none => noTableEntry index

/-- `OrientPattern(v)` (R101): the pattern of a raw value or of a table entry, with the colour-order bit. -/
def orientPattern (p : Params) (v : Int) : Byte :=
  if 0 ≤ v then BitVec.ofInt 8 v ||| cboBits p
  else tableEntry p (-v - 1).toNat ||| cboBits p

/-- The write of the memory-access-control byte, WR(0x36, [OrientPattern(v)]). -/
def madctlWrite (p : Params) (v : Int) : Tx := .wr regMadctl [orientPattern p v]

/-- SET_ORIENT (R104): checked before anything is written; the byte is written to the panel at once when INIT = 1
and deferred to INIT when INIT = 0 (R105). -/
def execSetOrient (value : Word) (s : State) : Host.Outcome State Fault Refusal :=
  .next <|
    if signedOperand value < -4 then s.raiseFault .orientIndex (Instr.setOrient value).header
    else if 255 < signedOperand value then s.raiseFault .orientRange (Instr.setOrient value).header
    else
      ({ s with orient := value }.transact
        (if s.init then [madctlWrite s.cfg.params (signedOperand value)] else [])).advance 1

/-- INIT (R106): marks the display initialised and writes the configured orientation, every time it is issued. -/
def execInit (s : State) : Host.Outcome State Fault Refusal :=
  .next (({ s with init := true }.transact [madctlWrite s.cfg.params s.orient.toInt]).advance 0)

end Sys2Proof.Machine
end

