-- ==== Sys2Proof/Machine/Dispatch.lean ====
section
/-! DEFINITION. One arm per command: the meaning of each row of spec/opcode_table.json. -/

namespace Sys2Proof.Machine

def exec (i : Instr) (s : State) : Host.Outcome State Fault Refusal :=
  match i with
  | .setOrient value => Sys2Proof.Machine.execSetOrient value s
  | .init => Sys2Proof.Machine.execInit s
  | .blit x y width height buf => Sys2Proof.Machine.execBlit x y width height buf s
  | .setTrot degrees => Sys2Proof.Machine.execSetTrot degrees s
  | .setTmask mask => Sys2Proof.Machine.execSetTmask mask s
  | .tpoll => Sys2Proof.Machine.execTpoll s
  | .zpoll => Sys2Proof.Machine.execZpoll s
  | .gpoll => Sys2Proof.Machine.execGpoll s
  | .epoll => Sys2Proof.Machine.execEpoll s

end Sys2Proof.Machine
end

