-- ==== Sys2Proof/Machine/Fetch.lean ====
section
/-! DEFINITION. Command assembly (20_memory.md R51, R52): what the engine finds at the front of the command stream. -/

namespace Sys2Proof.Machine

/-- The words the engine has to look at: those it has collected, then those at the port, in the order the host
wrote them (R51). -/
def State.stream (s : State) : List Word := s.asm ++ s.port

/-- The engine has consumed a command, or an illegal header: the assembly buffer is empty and `rest` stays at the
port (R52, R76; log 14). -/
def State.consumed (s : State) (rest : List Word) : State := { s with asm := [], port := rest }

/-- The engine collects the words that have arrived into the assembly buffer (R52; log 6). -/
def State.collect (s : State) : State := { s with asm := s.asm ++ s.port, port := [] }

/-- What the next step is about. -/
inductive Fetched
  /-- a complete command, with the state in which its words are consumed -/
  | run (i : Instr) (s : State)
  /-- an illegal header, with the state in which it is consumed -/
  | illegal (header : Word) (s : State)
  /-- words have arrived but the command is not complete: they are collected -/
  | collecting (s : State)
  /-- no word is left to collect and the command is not complete: the engine holds -/
  | hold
  deriving DecidableEq, Repr

/-- Command assembly (R52). -/
def fetch (s : State) : Fetched :=
  match decode s.stream with
  | .command i rest => .run i (s.consumed rest)
  | .illegal _ h rest => .illegal h (s.consumed rest)
  | .incomplete => if s.port.isEmpty then .hold else .collecting s.collect

/-- The state whose command stream begins with an opcode-table row's words: the assembly buffer is emptied and the
row's words stand where the first seven words at the port stood (log 7). -/
def State.withWords (s : State) (ws : List Word) : State :=
  { s with asm := [], port := ws ++ s.port.drop ws.length }

end Sys2Proof.Machine
end

