-- ==== Sys2Proof/Machine/Step.lean ====
section
/-! DEFINITION. One step of the engine (20_memory.md R52, R57, 60_exceptions.md R192). -/

namespace Sys2Proof.Machine

/-- One step of the engine. A halted engine has none (R192). A complete command executes as one atomic step (R57);
an illegal header raises ILLEGAL_CMD at once (R76, R77); an incomplete command's words are collected (R52, log 6),
and when none is left to collect the engine has no step (log 5). -/
def step (s : State) : Host.Outcome State Fault Refusal :=
  if s.faulted then .fault .halted
  else
    match fetch s with
    | .run i s' => exec i s'
    | .illegal h s' => .next (s'.raiseFault .illegalCmd h)
    | .collecting s' => .next s'
    | .hold => .fault .holding

/-- The state whose next command is the one an opcode-table row's bits name (log 7). -/
def State.withFetchWord (s : State) (nbits w : Nat) : State := s.withWords (tableWords nbits w)

end Sys2Proof.Machine
end

