-- ==== Sys2Proof/Machine/Assembler.lean ====
section
/-! DEFINITION. The assembler of 30_encoding.md R81 to R83: one command a line, operands separated by commas, `;`
starting a comment, decimal or 0x numbers with an optional leading `-`, the symbolic constants of R82, no
pseudo-instructions. What the rules leave open of the text's layout is log 15. -/

namespace Sys2Proof.Machine

/-- The command of a line whose operands are in range; "an operand outside its range is an assembly error, not a
command" (R81). -/
def assemble (l : AsmLine) : Option Instr :=
  if l.wellFormed then
    some <|
      match l with
      | .setOrient v => .setOrient (BitVec.ofInt 16 v)
      | .init => .init
      | .blit x y w h buf =>
        .blit (BitVec.ofInt 16 x) (BitVec.ofInt 16 y) (BitVec.ofInt 16 w) (BitVec.ofInt 16 h) (BitVec.ofInt 32 buf)
      | .setTrot d => .setTrot (BitVec.ofInt 16 d)
      | .setTmask m => .setTmask (BitVec.ofInt 8 m)
      | .tpoll => .tpoll
      | .zpoll => .zpoll
      | .gpoll => .gpoll
      | .epoll => .epoll
  else none

/-- The orientation codes an operand may name (R82, R100). -/
def orientationConstants : List (String × Int) :=
  [("PORTRAIT", -1), ("LANDSCAPE", -2), ("REVERSE_PORTRAIT", -3), ("REVERSE_LANDSCAPE", -4)]

/-- The mask bits an operand may name (R82). -/
def maskConstants : List (String × Nat) :=
  [("SWAP_XY", 1), ("INVERT_X", 2), ("INVERT_Y", 4)]

/-- A blank character between the parts of a line (log 15). -/
def isBlank (c : Char) : Bool := c == ' ' || c == '\t' || c == '\r'

/-- A text without the blanks around it. -/
def trimBlanks (cs : List Char) : List Char :=
  ((cs.dropWhile isBlank).reverse.dropWhile isBlank).reverse

/-- The pieces of a text between the places where a separator stands. -/
def piecesAt (sep : Char) : List Char → List (List Char)
  | [] => [[]]
  | c :: cs =>
    if c == sep then [] :: piecesAt sep cs
    else
      match piecesAt sep cs with
      | p :: ps => (c :: p) :: ps
      | [] => [[c]]

/-- The value of a digit in a base up to 16. -/
def digitValue (base : Nat) (c : Char) : Option Nat :=
  let v :=
    if '0' ≤ c ∧ c ≤ '9' then c.toNat - '0'.toNat
    else if 'a' ≤ c ∧ c ≤ 'f' then c.toNat - 'a'.toNat + 10
    else if 'A' ≤ c ∧ c ≤ 'F' then c.toNat - 'A'.toNat + 10
    else 16
  if v < base then some v else none

/-- The number a sequence of digits writes after the digits already read. -/
def digitsValue (base : Nat) (before : Nat) : List Char → Option Nat
  | [] => some before
  | c :: cs =>
    match digitValue base c with
    | some v => digitsValue base (before * base + v) cs
    | none => none

/-- An unsigned number, decimal or 0x hexadecimal (R81). -/
def parseUnsigned : List Char → Option Nat
  | [] => none
  | '0' :: 'x' :: c :: cs => digitsValue 16 0 (c :: cs)
  | c :: cs => digitsValue 10 0 (c :: cs)

/-- A number with an optional leading `-` (R81). -/
def parseNumber : List Char → Option Int
  | '-' :: cs => (parseUnsigned cs).map fun n => -(n : Int)
  | cs => (parseUnsigned cs).map fun n => (n : Int)

/-- A name looked up among symbolic constants. -/
def namedValue {α : Type} (names : List (String × α)) (cs : List Char) : Option α :=
  match names with
  | [] => none
  | (name, v) :: more => if name.toList == cs then some v else namedValue more cs

/-- An orientation operand: a number or a symbolic constant (R81). -/
def parseOrientation (cs : List Char) : Option Int :=
  match parseNumber cs with
  | some v => some v
  | none => namedValue orientationConstants cs

/-- An | of mask constants (R81). -/
def maskUnion : List (List Char) → Option Nat
  | [] => some 0
  | p :: ps =>
    match namedValue maskConstants (trimBlanks p), maskUnion ps with
    | some v, some rest => some (v ||| rest)
    | _, _ => none

/-- A mask operand: a number or an | of symbolic constants (R81). -/
def parseMask (cs : List Char) : Option Int :=
  match parseNumber cs with
  | some v => some v
  | none => (maskUnion (piecesAt '|' cs)).map fun n => (n : Int)

/-- The line a mnemonic and its operand texts write (R81). -/
def parseCommand (mnemonic : List Char) (operands : List (List Char)) : Option AsmLine :=
  if mnemonic == "SET_ORIENT".toList then
    match operands with
    | [v] => (parseOrientation v).map .setOrient
    | _ => none
  else if mnemonic == "INIT".toList then if operands.isEmpty then some .init else none
  else if mnemonic == "BLIT".toList then
    match operands.map parseNumber with
    | [some x, some y, some w, some h, some buf] => some (.blit x y w h buf)
    | _ => none
  else if mnemonic == "SET_TROT".toList then
    match operands with
    | [d] => (parseNumber d).map .setTrot
    | _ => none
  else if mnemonic == "SET_TMASK".toList then
    match operands with
    | [m] => (parseMask m).map .setTmask
    | _ => none
  else if mnemonic == "TPOLL".toList then if operands.isEmpty then some .tpoll else none
  else if mnemonic == "ZPOLL".toList then if operands.isEmpty then some .zpoll else none
  else if mnemonic == "GPOLL".toList then if operands.isEmpty then some .gpoll else none
  else if mnemonic == "EPOLL".toList then if operands.isEmpty then some .epoll else none
  else none

/-- The operand texts after a mnemonic. -/
def operandTexts (cs : List Char) : List (List Char) :=
  if (trimBlanks cs).isEmpty then [] else (piecesAt ',' cs).map trimBlanks

/-- The words one line of text assembles to: exactly one command's (R83), none of a line that is blank or a comment
only; no answer for an assembly error. -/
def assembleLine (cs : List Char) : Option (List Word) :=
  let text := trimBlanks (cs.takeWhile (· != ';'))
  if text.isEmpty then some []
  else
    match parseCommand (text.takeWhile (! isBlank ·)) (operandTexts (text.dropWhile (! isBlank ·))) with
    | some l => (assemble l).map encode
    | none => none

/-- The words the lines of a text assemble to, in order. -/
def assembleLines : List (List Char) → Option (List Word)
  | [] => some []
  | l :: ls =>
    match assembleLine l, assembleLines ls with
    | some ws, some more => some (ws ++ more)
    | _, _ => none

/-- The words a text assembles to (R81). -/
def assembleText (text : String) : Option (List Word) := assembleLines (piecesAt '\n' text.toList)

end Sys2Proof.Machine
end

