-- ==== Sys2Proof/Machine/HostPort.lean ====
section
/-! DEFINITION. The host's acts (00_scope.md R7 (a), 60_exceptions.md R210), which are not steps of the engine
(log 18): writing command words, reading the host register space (10_state.md R37 to R41), reset, instantiation. -/

namespace Sys2Proof.Machine

open Sys2Proof.Config

/-- The host writes one command word (20_memory.md R51, R210): it joins the end of the stream, whatever the engine
is doing. -/
def hostWrite (w : Word) (s : State) : State := { s with port := s.port ++ [w] }

/-- The host writes command words one after another. -/
def hostWriteAll (ws : List Word) (s : State) : State := { s with port := s.port ++ ws }

/-- The host writes command words over a byte-wide link (R62). Each call carries its own bytes: a word's two bytes
written in separate calls give no word (DESIGN CHOICE, unsafe: log 20). -/
def hostWriteLink (bytes : List Byte) (s : State) : State := hostWriteAll (linkWords bytes) s

/-- A host register read (R38, R39): the host's n-th read, at an 8-bit index. It returns a value and changes
nothing (R40); an unmapped index gives a free value, which may differ from read to read (log 9). -/
def hostRead (n : Nat) (index : BitVec 8) (s : State) : BitVec 32 :=
  if index = 0x00 then statusWord s
  else if index = 0x01 then s.fcause.zeroExtend 32
  else if index = 0x02 then s.fidx
  else if index = 0x03 then s.fcmd.zeroExtend 32
  else if index = 0x04 then s.cidx
  else if index = 0x05 then s.orient.signExtend 32
  else if index = 0x06 then s.tmask.zeroExtend 32
  else if index = 0x07 then s.maxx
  else if index = 0x08 then s.maxy
  else if index = 0x09 then s.ptX
  else if index = 0x0A then s.ptY
  else if index = 0x0B then s.code.zeroExtend 32
  else unmappedRead n index

/-- The reset input (70_reset_and_hazards.md R220, R221): every state element takes its reset value, the assembly
buffer is emptied, words not yet consumed are discarded, and no transaction is offered. The parameters, the
environment and the observer's record are not the block's state and stay (log 8). -/
def hostReset (s : State) : State :=
  { State.resetOf s.cfg with env := s.env, history := s.history }

/-- Instantiate the block with parameters (00_scope.md R8): the instance right after reset, or a refusal when a
parameter is outside its range. -/
def instantiate (p : Params) : Except Refusal State :=
  if h : p.legal = true then .ok (State.resetOf ⟨p, h⟩) else .error .illegalConfiguration

end Sys2Proof.Machine
end

