-- ==== Sys2Proof/Safety.lean ====
section
/-! DEFINITION. What counts as a good state and a good transaction, in the terms the statements use. -/

namespace Sys2Proof.Machine

open Sys2Proof.Config

/-- A legal orientation value (40_orientation.md R100, 10_state.md R26). -/
abbrev LegalOrientation (v : Int) : Prop := (-4 ≤ v ∧ v ≤ -1) ∨ (0 ≤ v ∧ v ≤ 255)

/-- The invariants of every reachable state, R33, clause by clause; TMASK is in 0..7 by its type. -/
abbrev State.Invariant (s : State) : Prop :=
  LegalOrientation s.orient.toInt ∧
  s.maxx.toInt = (s.cfg.params.width : Int) - 1 ∧
  s.maxy.toInt = (s.cfg.params.height : Int) - 1 ∧
  (s.ptValid = false → s.ptX = 0 ∧ s.ptY = 0) ∧
  (s.codeValid = false → s.code = 0) ∧
  (s.faulted = false → s.fcause = 0 ∧ s.fidx = 0 ∧ s.fcmd = 0)

/-- The fault record is a recorded one (60_exceptions.md R190): "Codes 0x07..0xFF are never recorded", and a fault has
one of the six causes. -/
abbrev State.FaultRecordSound (s : State) : Prop :=
  s.fcause.toNat ≤ 6 ∧ (s.faulted = true → 1 ≤ s.fcause.toNat)

/-- The assembly buffer holds words of a command whose words have not all arrived (10_state.md R32). -/
abbrev State.AssemblyIncomplete (s : State) : Prop := decode s.asm = .incomplete

/-- The transport's next `n` answers (20_memory.md R54). -/
def Env.answersOf (e : Env) : Nat → List Answer
  | 0 => []
  | n + 1 => e.nextAnswer :: e.afterAnswer.answersOf n

/-- The environment after the transport has answered `n` times. -/
def Env.answered (e : Env) : Nat → Env
  | 0 => e
  | n + 1 => e.afterAnswer.answered n

/-- The states that runs of an instance reach: from reset, under any environment, by the host's writes, the engine's
steps and the reset input (00_scope.md R17, 60_exceptions.md R210). -/
inductive Reachable : State → Prop
  | start (c : Instantiation) (e : Env) : Reachable { State.resetOf c with env := e }
  | write (s : State) (w : Word) : Reachable s → Reachable (hostWrite w s)
  | step (s t : State) : Reachable s → Machine.step s = .next t → Reachable t
  | reset (s : State) : Reachable s → Reachable (hostReset s)

/-- The kinds of transaction the block issues (20_memory.md R53): WR(0x2A, 4 bytes), WR(0x2B, 4 bytes),
WR(0x36, 1 byte) and PX(0x2C, ...). -/
def Tx.issued : Tx → Bool
  | .wr reg bytes =>
    (reg == 0x2A && bytes.length == 4) || (reg == 0x2B && bytes.length == 4) || (reg == 0x36 && bytes.length == 1)
  | .px reg _ _ _ _ _ => reg == 0x2C

end Sys2Proof.Machine
end

