-- ==== Sys2Proof/Certificates/Slice0/Obligations.lean ====
section
/-! DEFINITION. The statements about the block, each from the rules of spec/ its docstring names. In the equations
about a command, the state on the right is the whole next state: every field it does not name is unchanged. -/

open Sys2Proof Sys2Proof.Machine Sys2Proof.Config

/-! ### Encoding -/

/-- R70, R74, R75, R78: the words of any command, followed by any words, decode to that command and leave the rest. -/
def Obligations.DecodeOfEncodeIsTheCommand : Prop :=
  ∀ (i : Instr) (rest : List Word), decode (encode i ++ rest) = .command i rest

/-- R73, R75, R79, the other direction: what decodes to a command is that command's encoding, so that no two word
sequences mean one command and no bit of a header is ignored. -/
def Obligations.DecodedWordsAreTheEncoding : Prop :=
  ∀ (words rest : List Word) (i : Instr), decode words = .command i rest → words = encode i ++ rest

/-- R70, R73, R74: the words the opcode map's rows accept, header and length, are exactly the whole commands the
decoder reads. -/
def Obligations.OpcodeMapAgreesWithDecoder : Prop :=
  ∀ words : List Word, wellFormedCommand words = true ↔ ∃ i, decode words = .command i []

/-- R74, R79: no header word belongs to two rows of the opcode map. -/
def Obligations.OpcodeRowsAreDisjoint : Prop :=
  opcodeMap.Pairwise fun r q => ∀ h : Word, ¬ (r.accepts h = true ∧ q.accepts h = true)

/-- R74, R78: one word sequence of each command, written out from the encoding tables, decodes to the command it
stands for. -/
def Obligations.WrittenOutWordsDecode : Prop :=
  decode [0b0001000000000000, 0b1111111111111110] = .command (.setOrient 0xFFFE) [] ∧
  decode [0b0001000100000000] = .command .init [] ∧
  decode [0b0001001000000000, 0x000A, 0x0014, 0x0001, 0x0002, 0xDEAD, 0xBEEF]
    = .command (.blit 10 20 1 2 0xDEADBEEF) [] ∧
  decode [0b0010000000000000, 0b0000000001011010] = .command (.setTrot 90) [] ∧
  decode [0b0010000110000101] = .command (.setTmask 0b10000101) [] ∧
  decode [0b0010001000000000] = .command .tpoll [] ∧
  decode [0b0011000000000000] = .command .zpoll [] ∧
  decode [0b0011000100000000] = .command .gpoll [] ∧
  decode [0b0011001000000000] = .command .epoll []

/-- R84: the assembler's lines of the table assemble to the words beside them. -/
def Obligations.EncodingExamplesAssemble : Prop :=
  assembleText "SET_ORIENT PORTRAIT" = some [0x1000, 0xFFFF] ∧
  assembleText "SET_ORIENT REVERSE_LANDSCAPE" = some [0x1000, 0xFFFC] ∧
  assembleText "SET_ORIENT 0x68" = some [0x1000, 0x0068] ∧
  assembleText "INIT" = some [0x1100] ∧
  assembleText "BLIT 0, 0, 240, 240, 0x00010000" =
    some [0x1200, 0x0000, 0x0000, 0x00F0, 0x00F0, 0x0001, 0x0000] ∧
  assembleText "SET_TROT 90" = some [0x2000, 0x005A] ∧
  assembleText "SET_TROT -90" = some [0x2000, 0xFFA6] ∧
  assembleText "SET_TMASK SWAP_XY | INVERT_Y" = some [0x2105] ∧
  assembleText "TPOLL" = some [0x2200] ∧
  assembleText "ZPOLL" = some [0x3000] ∧
  assembleText "GPOLL" = some [0x3100] ∧
  assembleText "EPOLL" = some [0x3200]

/-- R78, R81: an assembler line within its operand ranges assembles to the command whose operands read back as the
numbers written; one operand outside its range is an assembly error, whatever the others are. -/
def Obligations.AssembledOperandsReadBack : Prop :=
  (∀ v : Int, (v < -32768 ∨ 32767 < v) → assemble (.setOrient v) = none ∧ assemble (.setTrot v) = none) ∧
  (∀ m : Int, (m < 0 ∨ 255 < m) → assemble (.setTmask m) = none) ∧
  (∀ x y w h buf : Int, ((∃ a ∈ [x, y, w, h], a < 0 ∨ 65535 < a) ∨ buf < 0 ∨ 0xFFFFFFFF < buf) →
    assemble (.blit x y w h buf) = none) ∧
  (assemble .init = some .init ∧ assemble .tpoll = some .tpoll ∧ assemble .zpoll = some .zpoll ∧
    assemble .gpoll = some .gpoll ∧ assemble .epoll = some .epoll) ∧
  (∀ v : Int, -32768 ≤ v → v ≤ 32767 →
    ∃ a b, assemble (.setOrient v) = some (.setOrient a) ∧ signedOperand a = v ∧
      assemble (.setTrot v) = some (.setTrot b) ∧ signedOperand b = v) ∧
  (∀ m : Int, 0 ≤ m → m ≤ 255 → ∃ b, assemble (.setTmask m) = some (.setTmask b) ∧ (b.toNat : Int) = m) ∧
  (∀ x y w h buf : Int, 0 ≤ x → x ≤ 65535 → 0 ≤ y → y ≤ 65535 → 0 ≤ w → w ≤ 65535 → 0 ≤ h → h ≤ 65535 →
    0 ≤ buf → buf ≤ 0xFFFFFFFF →
    ∃ a b c d e, assemble (.blit x y w h buf) = some (.blit a b c d e) ∧ unsignedOperand a = x ∧
      unsignedOperand b = y ∧ unsignedOperand c = w ∧ unsignedOperand d = h ∧ (e.toNat : Int) = buf)

/-- R62: command words carried over a byte-wide link, the high byte of each first, are the words themselves. -/
def Obligations.LinkBytesCarryTheWords : Prop :=
  ∀ (words : List Word) (s : State),
    hostWriteLink (words.flatMap fun w => [w.extractLsb' 8 8, w.extractLsb' 0 8]) s = hostWriteAll words s

/-! ### The step -/

/-- R52, R57, R75: when the stream begins with a command's words, the step is that command's meaning in the state
where exactly those words are consumed; every other effect, CIDX's advance among them, is the meaning's. -/
def Obligations.StepRunsTheDecodedCommand : Prop :=
  ∀ (s : State) (i : Instr) (rest : List Word), s.faulted = false →
    decode (s.asm ++ s.port) = .command i rest → step s = exec i { s with asm := [], port := rest }

/-- The host's check of a row: the step of a state whose next words are those of an opcode-table row runs the command
the row decodes to. The layout of the row's words is the model's (log 7). -/
def Obligations.TableRowRunsAsNextStep : Prop :=
  ∀ (s : State) (nbits w : Nat) (i : Instr), s.faulted = false → decodeTableWord nbits w = some i →
    ∃ rest, step (s.withFetchWord nbits w) = exec i { s with asm := [], port := rest }

/-- R192: a halted engine has no step, whatever words the host writes, which stay unconsumed; only the reset input
clears FAULTED. That "no step" is the stop `halted` is the model's choice (log 5). -/
def Obligations.HaltedEngineHasNoStep : Prop :=
  ∀ (s : State) (words : List Word), s.faulted = true →
    step (hostWriteAll words s) = .fault .halted ∧
    (hostWriteAll words s).port = s.port ++ words ∧
    (hostWriteAll words s).faulted = true ∧ (hostReset s).faulted = false

/-- R52, R228: an engine with part of a command holds. Words that have arrived are collected and change nothing else;
with none left there is no step. That this is the stop `holding`, and collecting a step, is the model's choice
(log 5, log 6). -/
def Obligations.IncompleteCommandHolds : Prop :=
  ∀ s : State, s.faulted = false → decode (s.asm ++ s.port) = .incomplete →
    (s.port = [] → step s = .fault .holding) ∧
    (s.port ≠ [] → step s = .next { s with asm := s.asm ++ s.port, port := [] })

/-- R52: any part of a command short of the whole is incomplete, and the host's writing the missing words lets the
next step run it. -/
def Obligations.MissingWordsLiftTheHold : Prop :=
  ∀ (s : State) (i : Instr) (words missing : List Word), s.faulted = false → s.asm ++ s.port = words →
    encode i = words ++ missing → missing ≠ [] →
    decode words = .incomplete ∧
    step (hostWriteAll missing s) = exec i { s with asm := [], port := [] }

/-- R76: an OPC outside the opcode map raises ILLEGAL_CMD as soon as the header is read and no operand word is
consumed. -/
def Obligations.UnassignedOpcodeFaultsAtTheHeader : Prop :=
  ∀ (s : State) (h : Word) (rest : List Word), s.faulted = false → s.asm ++ s.port = h :: rest →
    (h.toNat / 256 ≤ 0x0F ∨ (0x13 ≤ h.toNat / 256 ∧ h.toNat / 256 ≤ 0x1F) ∨
      (0x23 ≤ h.toNat / 256 ∧ h.toNat / 256 ≤ 0x2F) ∨ 0x33 ≤ h.toNat / 256) →
    step s = .next { s with
      asm := [], port := rest, faulted := true, fcause := 0x01, fidx := s.cidx, fcmd := h }

/-- R77: a listed OPC of format F0, F1 or F6 (every listed one but 0x21) with a nonzero IMM8 raises ILLEGAL_CMD at
the header, before any operand word is consumed. -/
def Obligations.ReservedImmediateFaultsAtTheHeader : Prop :=
  ∀ (s : State) (h : Word) (rest : List Word), s.faulted = false → s.asm ++ s.port = h :: rest →
    h.toNat / 256 ∈ [0x10, 0x11, 0x12, 0x20, 0x22, 0x30, 0x31, 0x32] → h.toNat % 256 ≠ 0 →
    step s = .next { s with
      asm := [], port := rest, faulted := true, fcause := 0x01, fidx := s.cidx, fcmd := h }

/-! ### Orientation -/

/-- R101: the memory-access-control byte of a legal orientation value. -/
def Obligations.OrientPatternFormula : Prop :=
  ∀ (p : Params) (v : Int),
    (-4 ≤ v → v ≤ -1 → ∀ b, p.ot[((-v) - 1).toNat]? = some b →
      (orientPattern p v).toNat = b.toNat ||| (if p.cbo then 8 else 0)) ∧
    (0 ≤ v → v ≤ 255 → (orientPattern p v).toNat = v.toNat ||| (if p.cbo then 8 else 0))

/-- R102: which table entry each logical orientation reads (shown with the colour-order bit clear), and that the index
is valid exactly for -4..-1 among the negative values. -/
def Obligations.OrientationTableIndex : Prop :=
  (∀ p : Params, p.cbo = false →
    orientPattern p (-1) = p.ot[0] ∧ orientPattern p (-2) = p.ot[1] ∧
    orientPattern p (-3) = p.ot[2] ∧ orientPattern p (-4) = p.ot[3]) ∧
  (∀ v : Int, (0 ≤ (-v) - 1 ∧ (-v) - 1 ≤ 3) ↔ (-4 ≤ v ∧ v ≤ -1))

/-- R103: a raw value keeps every bit it has set, and gains bit 3 exactly when P_CBO is 1. -/
def Obligations.RawPatternOnlyGainsTheColourBit : Prop :=
  ∀ (p : Params) (v : Nat) (j : Nat), v ≤ 255 → j < 8 →
    (orientPattern p (v : Int)).getLsbD j = (v.testBit j || (decide (j = 3) && p.cbo))

/-- R104: SET_ORIENT, every case of its rule. -/
def Obligations.SetOrientSetsOrFaults : Prop :=
  ∀ (v : Word) (s : State),
    (v.toInt < -4 → exec (.setOrient v) s = .next { s with
      faulted := true, fcause := 0x02, fidx := s.cidx, fcmd := 0x1000 }) ∧
    (255 < v.toInt → exec (.setOrient v) s = .next { s with
      faulted := true, fcause := 0x03, fidx := s.cidx, fcmd := 0x1000 }) ∧
    (-4 ≤ v.toInt → v.toInt ≤ 255 → s.init = false → exec (.setOrient v) s = .next { s with
      orient := v, xerr := false, cidx := s.cidx + 2 }) ∧
    (-4 ≤ v.toInt → v.toInt ≤ 255 → s.init = true → exec (.setOrient v) s = .next { s with
      orient := v, xerr := decide (s.env.nextAnswer = .fail), cidx := s.cidx + 2,
      history := s.history ++ [.wr 0x36 [orientPattern s.cfg.params v.toInt]], env := s.env.afterAnswer })

/-- R105: SET_ORIENTs before INIT only record their values; INIT writes the last one's pattern and nothing of the
earlier ones; an illegal value faults at once although INIT = 0. -/
def Obligations.DeferredOrientationReachesThePanelAtInit : Prop :=
  ∀ (v w : Word) (s : State), s.init = false → -4 ≤ v.toInt → v.toInt ≤ 255 →
    (-4 ≤ w.toInt → w.toInt ≤ 255 → ∃ t u r,
      exec (.setOrient v) s = .next t ∧ exec (.setOrient w) t = .next u ∧ exec .init u = .next r ∧
      t.orient = v ∧ t.history = s.history ∧ u.orient = w ∧ u.history = s.history ∧
      r.history = s.history ++ [.wr 0x36 [orientPattern s.cfg.params w.toInt]]) ∧
    ((w.toInt < -4 ∨ 255 < w.toInt) → ∃ t u,
      exec (.setOrient v) s = .next t ∧ exec (.setOrient w) t = .next u ∧
      u.faulted = true ∧ u.orient = v ∧ u.history = s.history)

/-- R106: INIT, its whole rule. -/
def Obligations.InitAppliesTheOrientation : Prop :=
  ∀ s : State, exec .init s = .next { s with
    init := true, xerr := decide (s.env.nextAnswer = .fail), cidx := s.cidx + 1,
    history := s.history ++ [.wr 0x36 [orientPattern s.cfg.params s.orient.toInt]], env := s.env.afterAnswer }

/-- R107: a FAIL on the memory-access-control write is no fault; the command completes, XERR is 1 and its writes
stand. -/
def Obligations.FailedOrientationWriteStands : Prop :=
  ∀ (v : Word) (s : State), s.env.nextAnswer = .fail →
    (s.init = true → -4 ≤ v.toInt → v.toInt ≤ 255 → ∃ t, exec (.setOrient v) s = .next t ∧
      t.faulted = s.faulted ∧ t.xerr = true ∧ t.orient = v ∧ t.cidx = s.cidx + 2 ∧
      t.history.length = s.history.length + 1) ∧
    (∃ t, exec .init s = .next t ∧ t.faulted = s.faulted ∧ t.xerr = true ∧ t.init = true ∧ t.cidx = s.cidx + 1 ∧
      t.history.length = s.history.length + 1)

/-- R110: nothing but SET_ORIENT writes ORIENT and nothing but SET_TROT and SET_TMASK writes TMASK, MAXX or MAXY. -/
def Obligations.OrientationAndMaskAreNeverSynchronised : Prop :=
  ∀ (i : Instr) (s t : State), exec i s = .next t →
    ((∀ v, i ≠ .setOrient v) → t.orient = s.orient) ∧
    ((∀ d, i ≠ .setTrot d) → (∀ m, i ≠ .setTmask m) → t.tmask = s.tmask ∧ t.maxx = s.maxx ∧ t.maxy = s.maxy)

/-! ### Addressing -/

/-- R120 to R123, R125 to R127, R129: BLIT of a legal window, whatever INIT is: the column address, the row address
and the pixels are offered in that order, big-endian, until one is answered FAIL. -/
def Obligations.BlitOffersItsWindow : Prop :=
  ∀ (x y w h : Word) (buf : Handle) (s : State) (x1 x2 y1 y2 : Int),
    x1 = x.toNat + s.cfg.params.offX → x2 = x1 + w.toNat - 1 →
    y1 = y.toNat + s.cfg.params.offY → y2 = y1 + h.toNat - 1 →
    (0 ≤ x1 ∧ x1 ≤ 65535) → (0 ≤ x2 ∧ x2 ≤ 65535) → (0 ≤ y1 ∧ y1 ≤ 65535) → (0 ≤ y2 ∧ y2 ≤ 65535) →
    ∀ column row pixels : Tx,
    column = .wr 0x2A [.ofInt 8 (x1 / 256), .ofInt 8 (x1 % 256), .ofInt 8 (x2 / 256), .ofInt 8 (x2 % 256)] →
    row = .wr 0x2B [.ofInt 8 (y1 / 256), .ofInt 8 (y1 % 256), .ofInt 8 (y2 / 256), .ofInt 8 (y2 % 256)] →
    pixels = .px 0x2C buf (.ofInt 16 x1) (.ofInt 16 y1) (.ofInt 16 x2) (.ofInt 16 y2) →
    (s.env.nextAnswer = .fail → exec (.blit x y w h buf) s = .next { s with
      xerr := true, cidx := s.cidx + 7, history := s.history ++ [column], env := s.env.answered 1 }) ∧
    (s.env.nextAnswer = .ok → (s.env.answered 1).nextAnswer = .fail →
      exec (.blit x y w h buf) s = .next { s with
        xerr := true, cidx := s.cidx + 7, history := s.history ++ [column, row], env := s.env.answered 2 }) ∧
    (s.env.nextAnswer = .ok → (s.env.answered 1).nextAnswer = .ok →
      exec (.blit x y w h buf) s = .next { s with
        xerr := decide ((s.env.answered 2).nextAnswer = .fail), cidx := s.cidx + 7,
        history := s.history ++ [column, row, pixels], env := s.env.answered 3 })

/-- R121: a window with a bound outside 0..65535 faults WINDOW_RANGE before anything is offered. -/
def Obligations.IllegalWindowFaults : Prop :=
  ∀ (x y w h : Word) (buf : Handle) (s : State) (x1 x2 y1 y2 : Int),
    x1 = x.toNat + s.cfg.params.offX → x2 = x1 + w.toNat - 1 →
    y1 = y.toNat + s.cfg.params.offY → y2 = y1 + h.toNat - 1 →
    ((∃ a ∈ [x1, x2, y1, y2], a < 0 ∨ 65535 < a) ↔
      exec (.blit x y w h buf) s = .next { s with
        faulted := true, fcause := 0x04, fidx := s.cidx, fcmd := 0x1200 })

/-- R122: an address window's parameter list is both addresses high byte first. -/
def Obligations.AddressParametersAreBigEndian : Prop :=
  ∀ a b : Nat, a ≤ 65535 → b ≤ 65535 →
    (windowBytes (.ofInt 16 a) (.ofInt 16 b)).map BitVec.toNat =
      [(a >>> 8) &&& 0xFF, a &&& 0xFF, (b >>> 8) &&& 0xFF, b &&& 0xFF]

/-- R128: a rectangle of width 0 at column address 0, or of height 0 at row address 0, faults; elsewhere it is
offered with its end one below its start. -/
def Obligations.EmptyRectanglesAreOfferedLiterally : Prop :=
  ∀ (x y w h : Word) (buf : Handle) (s : State) (x1 y1 : Nat),
    x1 = x.toNat + s.cfg.params.offX → y1 = y.toNat + s.cfg.params.offY →
    (x1 = 0 → exec (.blit x y 0 h buf) s = .next { s with
      faulted := true, fcause := 0x04, fidx := s.cidx, fcmd := 0x1200 }) ∧
    (y1 = 0 → exec (.blit x y w 0 buf) s = .next { s with
      faulted := true, fcause := 0x04, fidx := s.cidx, fcmd := 0x1200 }) ∧
    (1 ≤ x1 → x1 ≤ 65535 → 1 ≤ h.toNat → y1 + h.toNat ≤ 65536 → ∃ t more,
      exec (.blit x y 0 h buf) s = .next t ∧ t.faulted = s.faulted ∧
      t.history = s.history ++ .wr 0x2A
        [.ofNat 8 (x1 / 256), .ofNat 8 x1, .ofNat 8 ((x1 - 1) / 256), .ofNat 8 (x1 - 1)] :: more) ∧
    (1 ≤ y1 → y1 ≤ 65535 → 1 ≤ w.toNat → x1 + w.toNat ≤ 65536 → s.env.nextAnswer = .ok → ∃ t column more,
      exec (.blit x y w 0 buf) s = .next t ∧ t.faulted = s.faulted ∧
      t.history = s.history ++ column :: .wr 0x2B
        [.ofNat 8 (y1 / 256), .ofNat 8 y1, .ofNat 8 ((y1 - 1) / 256), .ofNat 8 (y1 - 1)] :: more)

/-! ### Touch -/

/-- R140 to R142: SET_TROT sets the mask of floor(degrees / 90) mod 4 and recomputes max_x and max_y. -/
def Obligations.SetTrotSetsTheCanonicalMask : Prop :=
  ∀ (d : Word) (s : State), exec (.setTrot d) s = .next { s with
    tmask :=
      if Int.fmod (Int.fdiv d.toInt 90) 4 = 0 then 0b000
      else if Int.fmod (Int.fdiv d.toInt 90) 4 = 1 then 0b101
      else if Int.fmod (Int.fdiv d.toInt 90) 4 = 2 then 0b110
      else 0b011,
    maxx := .ofInt 32 ((s.cfg.params.width : Int) - 1), maxy := .ofInt 32 ((s.cfg.params.height : Int) - 1),
    xerr := false, cidx := s.cidx + 2 }

/-- R141, R143: SET_TMASK keeps bits 2:0 of its immediate, whatever bits 7:3 are. -/
def Obligations.SetTmaskKeepsThreeBits : Prop :=
  ∀ (m : BitVec 8) (s : State), exec (.setTmask m) s = .next { s with
    tmask := .ofNat 3 (m.toNat % 8),
    maxx := .ofInt 32 ((s.cfg.params.width : Int) - 1), maxy := .ofInt 32 ((s.cfg.params.height : Int) - 1),
    xerr := false, cidx := s.cidx + 1 }

/-- R144, the transform: swap, then invert x against MAXX, then invert y against MAXY, for each of the eight masks. -/
def Obligations.NormalizeFollowsTheMask : Prop :=
  ∀ (s : State) (rx ry : Int),
    s.normalize rx ry =
      (if s.tmask = 0b000 then (rx, ry)
       else if s.tmask = 0b001 then (ry, rx)
       else if s.tmask = 0b010 then (s.maxx.toInt - rx, ry)
       else if s.tmask = 0b011 then (s.maxx.toInt - ry, rx)
       else if s.tmask = 0b100 then (rx, s.maxy.toInt - ry)
       else if s.tmask = 0b101 then (ry, s.maxy.toInt - rx)
       else if s.tmask = 0b110 then (s.maxx.toInt - rx, s.maxy.toInt - ry)
       else (s.maxx.toInt - ry, s.maxy.toInt - rx))

/-- R144, the range: in every state that keeps R33, a raw point of 16-bit coordinates normalizes to coordinates in
-65535..65535, which PT_X and PT_Y hold exactly. -/
def Obligations.NormalizedPointsFitPT : Prop :=
  ∀ (s : State) (rx ry : BitVec 16), s.Invariant →
    ∀ v ∈ [(s.normalize rx.toNat ry.toNat).1, (s.normalize rx.toNat ry.toNat).2],
      -65535 ≤ v ∧ v ≤ 65535 ∧ (BitVec.ofInt 32 v).toInt = v

/-- R145: the point a poll acquires from each kind of sample. -/
def Obligations.AcquireTakesTheFirstPoint : Prop :=
  ∀ s : State,
    (s.env.nextSample ∈ [.none, .notReady, .list []] → s.acquired = none) ∧
    (∀ rx ry, s.env.nextSample = .point rx ry → s.acquired = some (s.normalize rx.toNat ry.toNat)) ∧
    (∀ rx ry more, s.env.nextSample = .list ((rx, ry) :: more) →
      s.acquired = some (s.normalize rx.toNat ry.toNat))

/-- R146: TPOLL, every case of its rule. -/
def Obligations.TpollReportsThePoint : Prop :=
  ∀ s : State,
    (s.cfg.params.source = .event → exec .tpoll s = .next { s with
      faulted := true, fcause := 0x06, fidx := s.cidx, fcmd := 0x2200 }) ∧
    (s.cfg.params.source = .coord → s.acquired = none → exec .tpoll s = .next { s with
      env := s.env.afterSample, ptValid := false, ptX := 0, ptY := 0, codeValid := false, code := 0,
      xerr := false, cidx := s.cidx + 1 }) ∧
    (∀ x y, s.cfg.params.source = .coord → s.acquired = some (x, y) → exec .tpoll s = .next { s with
      env := s.env.afterSample, ptValid := true, ptX := .ofInt 32 x, ptY := .ofInt 32 y,
      codeValid := false, code := 0, xerr := false, cidx := s.cidx + 1 })

/-- R149 (a), (b), (c): degrees 360 apart set the same mask, mask 0 is the identity, each inversion undoes itself. -/
def Obligations.TouchRotationProperties : Prop :=
  (∀ (d e : Word) (s t u : State), e.toInt = d.toInt + 360 →
    exec (.setTrot d) s = .next t → exec (.setTrot e) s = .next u → t.tmask = u.tmask) ∧
  (∀ (s : State) (rx ry : Int), s.tmask = 0b000 → s.normalize rx ry = (rx, ry)) ∧
  (∀ (s : State) (rx ry : Int), s.tmask = 0b010 →
    s.normalize (s.normalize rx ry).1 (s.normalize rx ry).2 = (rx, ry)) ∧
  (∀ (s : State) (rx ry : Int), s.tmask = 0b100 →
    s.normalize (s.normalize rx ry).1 (s.normalize rx ry).2 = (rx, ry))

/-! ### Discretizer -/

/-- R160: Band is the exact comparison with the thirds, boundaries are in the middle band, and it is total: negative
coordinates are in the first band and those at or beyond the size in the last. -/
def Obligations.BandIsExactAndTotal : Prop :=
  ∀ (v : Int) (size : Nat), 1 ≤ size →
    (band v size = .first ↔ 3 * v < size) ∧ (band v size = .last ↔ 2 * (size : Int) < 3 * v) ∧
    (band v size = .middle ↔ (size : Int) ≤ 3 * v ∧ 3 * v ≤ 2 * (size : Int)) ∧
    (v < 0 → band v size = .first) ∧ ((size : Int) ≤ v → band v size = .last)

/-- R161: the zone code is 7 plus the column band minus three times the row band, the layout 7 8 9, 4 5 6, 1 2 3 with
y growing downward. -/
def Obligations.ZoneCodesFormTheKeypad : Prop :=
  ∀ (p : Params) (x y : Int) (c r : Nat),
    (c = if 3 * x < p.width then 0 else if 2 * (p.width : Int) < 3 * x then 2 else 1) →
    (r = if 3 * y < p.height then 0 else if 2 * (p.height : Int) < 3 * y then 2 else 1) →
    (zone p x y).toNat = 7 + c - 3 * r

/-- R162: ZPOLL, every case of its rule; the zone is that of the point as PT_X and PT_Y hold it. -/
def Obligations.ZpollReportsTheZone : Prop :=
  ∀ s : State,
    (s.cfg.params.source = .event → exec .zpoll s = .next { s with
      faulted := true, fcause := 0x06, fidx := s.cidx, fcmd := 0x3000 }) ∧
    (s.cfg.params.source = .coord → s.acquired = none → exec .zpoll s = .next { s with
      env := s.env.afterSample, ptValid := false, ptX := 0, ptY := 0, codeValid := false, code := 0,
      xerr := false, cidx := s.cidx + 1 }) ∧
    (∀ x y, s.cfg.params.source = .coord → s.acquired = some (x, y) → exec .zpoll s = .next { s with
      env := s.env.afterSample, ptValid := true, ptX := .ofInt 32 x, ptY := .ofInt 32 y,
      codeValid := true, code := zone s.cfg.params (BitVec.ofInt 32 x).toInt (BitVec.ofInt 32 y).toInt,
      xerr := false, cidx := s.cidx + 1 })

/-- R164: the row is in the grid exactly for 0 <= y < P_HEIGHT, the column exactly for 0 <= x < P_WIDTH, and a point
outside the display is CELL_RANGE. -/
def Obligations.GridRangeIsTheDisplay : Prop :=
  ∀ (c : Instantiation) (x y : Int),
    ((0 ≤ gridRow c.params y ∧ gridRow c.params y < c.params.rows) ↔ (0 ≤ y ∧ y < c.params.height)) ∧
    ((0 ≤ gridCol c.params x ∧ gridCol c.params x < c.params.cols) ↔ (0 ≤ x ∧ x < c.params.width)) ∧
    (reduceGrid c.params x y = .cellRange ↔ ¬ ((0 ≤ x ∧ x < c.params.width) ∧ (0 ≤ y ∧ y < c.params.height)))

/-- R163, R165: inside the display the grid code is cell + 1 without a key table, in 1..P_ROWS*P_COLS, and the table's
entry at the cell with one, which exists. -/
def Obligations.GridCodeOfACell : Prop :=
  ∀ (c : Instantiation) (x y : Int) (cell : Int),
    0 ≤ x → x < c.params.width → 0 ≤ y → y < c.params.height →
    cell = Int.fdiv (y * c.params.rows) c.params.height * c.params.cols + Int.fdiv (x * c.params.cols) c.params.width →
    (c.params.keytab = none → ∃ code, grid c.params x y = some code ∧ (code.toNat : Int) = cell + 1 ∧
      1 ≤ code.toNat ∧ code.toNat ≤ c.params.rows * c.params.cols) ∧
    (∀ codes, c.params.keytab = some codes → ∃ code, grid c.params x y = some code ∧ codes[cell.toNat]? = some code)

/-- R166: GPOLL, every case of its rule: the point's grid code inside the display, CELL_RANGE outside it with the
sample consumed all the same. -/
def Obligations.GpollReportsTheCell : Prop :=
  ∀ s : State,
    (s.cfg.params.source = .event → exec .gpoll s = .next { s with
      faulted := true, fcause := 0x06, fidx := s.cidx, fcmd := 0x3100 }) ∧
    (s.cfg.params.source = .coord → s.acquired = none → exec .gpoll s = .next { s with
      env := s.env.afterSample, ptValid := false, ptX := 0, ptY := 0, codeValid := false, code := 0,
      xerr := false, cidx := s.cidx + 1 }) ∧
    (∀ x y, s.cfg.params.source = .coord → s.acquired = some (x, y) →
      ((0 ≤ x ∧ x < s.cfg.params.width) ∧ (0 ≤ y ∧ y < s.cfg.params.height)) →
      ∃ code, grid s.cfg.params x y = some code ∧ exec .gpoll s = .next { s with
        env := s.env.afterSample, ptValid := true, ptX := .ofInt 32 x, ptY := .ofInt 32 y,
        codeValid := true, code := code, xerr := false, cidx := s.cidx + 1 }) ∧
    (∀ x y, s.cfg.params.source = .coord → s.acquired = some (x, y) →
      ¬ ((0 ≤ x ∧ x < s.cfg.params.width) ∧ (0 ≤ y ∧ y < s.cfg.params.height)) →
      exec .gpoll s = .next { s with
        env := s.env.afterSample, faulted := true, fcause := 0x05, fidx := s.cidx, fcmd := 0x3100 })

/-- R167, R168: EPOLL, every case of its rule. -/
def Obligations.EpollReportsTheEvent : Prop :=
  ∀ s : State,
    (s.cfg.params.source = .coord → exec .epoll s = .next { s with
      faulted := true, fcause := 0x06, fidx := s.cidx, fcmd := 0x3200 }) ∧
    (s.cfg.params.source = .event →
      (s.env.nextEvent ∈ [.none, .notReady, .other] ∨ ∃ ex ey, s.env.nextEvent = .buttonDown false ex ey) →
      exec .epoll s = .next { s with
        env := s.env.afterEvent, ptValid := false, ptX := 0, ptY := 0, codeValid := false, code := 0,
        xerr := false, cidx := s.cidx + 1 }) ∧
    (∀ key, s.cfg.params.source = .event → s.env.nextEvent = .keyDown key → exec .epoll s = .next { s with
      env := s.env.afterEvent, ptValid := false, ptX := 0, ptY := 0, codeValid := true, code := key,
      xerr := false, cidx := s.cidx + 1 }) ∧
    (∀ ex ey, s.cfg.params.source = .event → s.env.nextEvent = .buttonDown true ex ey →
      ex.toNat < s.cfg.params.width → ey.toNat < s.cfg.params.height →
      ∃ code, grid s.cfg.params ex.toNat ey.toNat = some code ∧ exec .epoll s = .next { s with
        env := s.env.afterEvent, ptValid := false, ptX := 0, ptY := 0, codeValid := true, code := code,
        xerr := false, cidx := s.cidx + 1 }) ∧
    (∀ ex ey, s.cfg.params.source = .event → s.env.nextEvent = .buttonDown true ex ey →
      (s.cfg.params.width ≤ ex.toNat ∨ s.cfg.params.height ≤ ey.toNat) → exec .epoll s = .next { s with
        env := s.env.afterEvent, faulted := true, fcause := 0x05, fidx := s.cidx, fcmd := 0x3200 })

/-- R29, R30: only the polls write PT and CODE, and every poll that completes leaves an invalid group zero. -/
def Obligations.OnlyPollsWriteTheResults : Prop :=
  ∀ (i : Instr) (s t : State), exec i s = .next t →
    (i ∉ [.tpoll, .zpoll, .gpoll, .epoll] →
      t.ptValid = s.ptValid ∧ t.ptX = s.ptX ∧ t.ptY = s.ptY ∧ t.codeValid = s.codeValid ∧ t.code = s.code) ∧
    (i ∈ [.tpoll, .zpoll, .gpoll, .epoll] → s.faulted = false → t.faulted = false →
      (t.ptValid = false → t.ptX = 0 ∧ t.ptY = 0) ∧ (t.codeValid = false → t.code = 0))

/-! ### The whole machine -/

/-- R33: the invariants hold in every state that a run of an instance reaches, under every environment. -/
def Obligations.ReachableStatesKeepTheInvariants : Prop :=
  ∀ s : State, Reachable s → s.Invariant

/-- R33, the step: every step from a state with the invariants gives a state with them. -/
def Obligations.StepKeepsTheInvariants : Prop :=
  ∀ s t : State, s.Invariant → step s = .next t → t.Invariant

/-- R33, R36: the invariants hold right after reset, of State.reset and of every instance. -/
def Obligations.ResetMeetsTheInvariants : Prop :=
  State.reset.Invariant ∧ ∀ c : Instantiation, (State.resetOf c).Invariant

/-- R190: a step records no cause code beyond 0x06, and a fault always has a cause. -/
def Obligations.StepKeepsTheFaultRecordSound : Prop :=
  ∀ s t : State, s.FaultRecordSound → step s = .next t → t.FaultRecordSound

/-- R32: after every step the assembly buffer holds an incomplete command. -/
def Obligations.AssemblyBufferStaysIncomplete : Prop :=
  ∀ s t : State, step s = .next t → decode t.asm = .incomplete

/-- R8: no step, no write and no reset changes the configuration parameters. -/
def Obligations.ConfigurationNeverChanges : Prop :=
  ∀ (s t : State) (w : Word), (step s = .next t → t.cfg = s.cfg) ∧
    (hostWrite w s).cfg = s.cfg ∧ (hostReset s).cfg = s.cfg

/-- R53, R55, R221: a step only adds to the transactions offered, at most three, each of an issued kind; the
memory-access-control register is written only by INIT and by SET_ORIENT with INIT = 1. -/
def Obligations.StepsOfferOnlyIssuedTransactions : Prop :=
  ∀ s t : State, step s = .next t →
    ∃ offered, t.history = s.history ++ offered ∧ offered.length ≤ 3 ∧ (∀ x ∈ offered, x.issued = true) ∧
      (∀ bytes, .wr 0x36 bytes ∈ offered →
        ∃ i rest, decode (s.asm ++ s.port) = .command i rest ∧
          (i = .init ∨ (∃ v, i = .setOrient v) ∧ s.init = true))

/-- R22: CIDX advances by the command's length, modulo 2^32, exactly when a command completes without a fault, a
transport failure included; no other step moves it. -/
def Obligations.CommandIndexAdvancesOnCompletion : Prop :=
  ∀ s t : State, step s = .next t →
    (∀ i rest, decode (s.asm ++ s.port) = .command i rest → t.faulted = false →
      t.cidx.toNat = (s.cidx.toNat + (encode i).length) % 2 ^ 32) ∧
    (t.faulted = true → t.cidx = s.cidx) ∧
    (decode (s.asm ++ s.port) = .incomplete → t.cidx = s.cidx)

/-- R25: INIT becomes 1 by the INIT command and by nothing else, and no command clears it. -/
def Obligations.InitIsSetOnlyByInit : Prop :=
  ∀ (i : Instr) (s t : State), exec i s = .next t → t.init = (s.init || decide (i = .init))

/-- R31, R200: a command that completes sets XERR to whether one of its transactions was answered FAIL, only the last
one can have been, and a command that faults leaves XERR. -/
def Obligations.XerrReportsTheTransportFailure : Prop :=
  ∀ (i : Instr) (s t : State), s.faulted = false → exec i s = .next t →
    (t.faulted = true → t.xerr = s.xerr ∧ t.history = s.history) ∧
    (t.faulted = false → ∃ offered, t.history = s.history ++ offered ∧
      (t.xerr = true ↔ Answer.fail ∈ s.env.answersOf offered.length) ∧
      Answer.fail ∉ s.env.answersOf (offered.length - 1))

/-- R191: a step that faults writes the fault record of the header it read and nothing else, and the only draw it can
have made is a poll's read before CELL_RANGE. The words that leave the stream are exactly those the decoder reads: a
command's own, or an illegal header alone; that a faulting command's words leave it is the model's choice (log 14). -/
def Obligations.FaultEntryIsPrecise : Prop :=
  ∀ s t : State, step s = .next t → t.faulted = true →
    ∃ (c : FaultCause) (h : Word) (words rest : List Word) (e : Env),
      s.asm ++ s.port = h :: words ∧
      ((c ≠ .illegalCmd ∧ ∃ i, decode (s.asm ++ s.port) = .command i rest) ∨
        (c = .illegalCmd ∧ rest = words ∧ ∃ why, decode (s.asm ++ s.port) = .illegal why h rest)) ∧
      t = { s with asm := [], port := rest, env := e,
                   faulted := true, fcause := c.code, fidx := s.cidx, fcmd := h } ∧
      (c ≠ .cellRange → e = s.env) ∧
      (c = .cellRange → (h = 0x3100 ∧ e = s.env.afterSample) ∨ (h = 0x3200 ∧ e = s.env.afterEvent))

/-! ### Reset and the host's registers -/

/-- R36: the value of every state element right after reset, of State.reset and of every instance, in terms of the
instance's parameters. -/
def Obligations.ResetValues : Prop :=
  ∀ (r : State) (c : Instantiation), (r = State.reset ∧ c = State.reset.cfg) ∨ r = State.resetOf c →
    r.faulted = false ∧ r.fcause = 0 ∧ r.fidx = 0 ∧ r.fcmd = 0 ∧ r.cidx = 0 ∧ r.init = false ∧
    r.orient.toInt = c.params.orientReset ∧ r.tmask = c.params.tmaskReset ∧
    r.maxx.toInt = (c.params.width : Int) - 1 ∧ r.maxy.toInt = (c.params.height : Int) - 1 ∧
    r.ptValid = false ∧ r.ptX = 0 ∧ r.ptY = 0 ∧ r.codeValid = false ∧ r.code = 0 ∧ r.xerr = false ∧ r.asm = []

/-- R220, R221: the reset input, whatever the state was: every element takes its reset value, the assembly buffer is
emptied, words not yet consumed are discarded and no transaction is offered. -/
def Obligations.ResetInputRestoresTheResetState : Prop :=
  ∀ s : State,
    (hostReset s).orient.toInt = s.cfg.params.orientReset ∧
    (hostReset s).maxx.toInt = (s.cfg.params.width : Int) - 1 ∧
    (hostReset s).maxy.toInt = (s.cfg.params.height : Int) - 1 ∧
    ∃ orient maxx maxy, hostReset s = { s with
      faulted := false, fcause := 0, fidx := 0, fcmd := 0, cidx := 0, init := false, orient := orient,
      tmask := s.cfg.params.tmaskReset, maxx := maxx, maxy := maxy, ptValid := false, ptX := 0, ptY := 0,
      codeValid := false, code := 0, xerr := false, asm := [], port := [] }

/-- R37, R38: what each mapped register index reads, and that no word the host writes changes what one reads: the
registers are read-only. -/
def Obligations.HostRegisterMap : Prop :=
  ∀ (n : Nat) (s : State),
    (∀ j, (hostRead n 0x00 s).getLsbD j =
      ((decide (j = 0) && s.faulted) || (decide (j = 1) && s.init) || (decide (j = 2) && s.xerr) ||
       (decide (j = 3) && s.ptValid) || (decide (j = 4) && s.codeValid))) ∧
    (hostRead n 0x01 s).toNat = s.fcause.toNat ∧ hostRead n 0x02 s = s.fidx ∧
    (hostRead n 0x03 s).toNat = s.fcmd.toNat ∧ hostRead n 0x04 s = s.cidx ∧
    (hostRead n 0x05 s).toInt = s.orient.toInt ∧ (hostRead n 0x06 s).toNat = s.tmask.toNat ∧
    hostRead n 0x07 s = s.maxx ∧ hostRead n 0x08 s = s.maxy ∧ hostRead n 0x09 s = s.ptX ∧
    hostRead n 0x0A s = s.ptY ∧ (hostRead n 0x0B s).toNat = s.code.toNat ∧
    (∀ (index : BitVec 8) (w : Word) (words : List Word) (bytes : List Byte), index.toNat ≤ 0x0B →
      hostRead n index (hostWrite w s) = hostRead n index s ∧
      hostRead n index (hostWriteAll words s) = hostRead n index s ∧
      hostRead n index (hostWriteLink bytes s) = hostRead n index s)

/-- R39: a read of an index from 0x0C on is a free value, one for each read, that no state decides. That the n-th read
is the free value numbered n is the model's choice (log 9). -/
def Obligations.UnmappedReadsAreFree : Prop :=
  ∀ (n : Nat) (index : BitVec 8) (s : State), 0x0C ≤ index.toNat → hostRead n index s = unmappedRead n index

/-- R8, R36: parameters outside the ranges of R8's table have no instance; parameters within them have one, with
those parameters and, as the model reads the spec (log 19), every state element at its reset value. P_CBO, P_OT,
P_TMASK_RESET and P_SOURCE are in range by their types. -/
def Obligations.IllegalConfigurationIsRefused : Prop :=
  ∀ p : Params,
    if (1 ≤ p.width ∧ p.width ≤ 65535) ∧ (1 ≤ p.height ∧ p.height ≤ 65535) ∧ p.offX ≤ 65535 ∧ p.offY ≤ 65535 ∧
        (0 < p.bpp ∧ p.bpp < 256 ∧ p.bpp % 8 = 0) ∧
        ((-4 ≤ p.orientReset ∧ p.orientReset ≤ -1) ∨ (0 ≤ p.orientReset ∧ p.orientReset ≤ 255)) ∧
        (1 ≤ p.rows ∧ p.rows ≤ 255) ∧ (1 ≤ p.cols ∧ p.cols ≤ 255) ∧
        (∀ codes ∈ p.keytab, p.rows * p.cols ≤ codes.length) then
      ∃ r : State, instantiate p = .ok r ∧ r.cfg.params = p ∧
        r.faulted = false ∧ r.fcause = 0 ∧ r.fidx = 0 ∧ r.fcmd = 0 ∧ r.cidx = 0 ∧ r.init = false ∧
        r.orient.toInt = p.orientReset ∧ r.tmask = p.tmaskReset ∧
        r.maxx.toInt = (p.width : Int) - 1 ∧ r.maxy.toInt = (p.height : Int) - 1 ∧
        r.ptValid = false ∧ r.ptX = 0 ∧ r.ptY = 0 ∧ r.codeValid = false ∧ r.code = 0 ∧ r.xerr = false ∧ r.asm = []
    else instantiate p = .error .illegalConfiguration
end

