-- ==== Sys2Proof/Laws/State.lean ====
section
/-! SUPPORT. What each named update of the state does to each field, one lemma per field and update, so that no
proof unfolds a record update. -/

namespace Sys2Proof.Machine

open Sys2Proof.Config


/-! ### raiseFault -/

@[simp] theorem State.raiseFault_cfg (s : State) (c : FaultCause) (h : Word) : (s.raiseFault c h).cfg = s.cfg := rfl
@[simp] theorem State.raiseFault_faulted (s : State) (c : FaultCause) (h : Word) : (s.raiseFault c h).faulted = true := rfl
@[simp] theorem State.raiseFault_fcause (s : State) (c : FaultCause) (h : Word) : (s.raiseFault c h).fcause = c.code := rfl
@[simp] theorem State.raiseFault_fidx (s : State) (c : FaultCause) (h : Word) : (s.raiseFault c h).fidx = s.cidx := rfl
@[simp] theorem State.raiseFault_fcmd (s : State) (c : FaultCause) (h : Word) : (s.raiseFault c h).fcmd = h := rfl
@[simp] theorem State.raiseFault_cidx (s : State) (c : FaultCause) (h : Word) : (s.raiseFault c h).cidx = s.cidx := rfl
@[simp] theorem State.raiseFault_init (s : State) (c : FaultCause) (h : Word) : (s.raiseFault c h).init = s.init := rfl
@[simp] theorem State.raiseFault_orient (s : State) (c : FaultCause) (h : Word) : (s.raiseFault c h).orient = s.orient := rfl
@[simp] theorem State.raiseFault_tmask (s : State) (c : FaultCause) (h : Word) : (s.raiseFault c h).tmask = s.tmask := rfl
@[simp] theorem State.raiseFault_maxx (s : State) (c : FaultCause) (h : Word) : (s.raiseFault c h).maxx = s.maxx := rfl
@[simp] theorem State.raiseFault_maxy (s : State) (c : FaultCause) (h : Word) : (s.raiseFault c h).maxy = s.maxy := rfl
@[simp] theorem State.raiseFault_ptValid (s : State) (c : FaultCause) (h : Word) : (s.raiseFault c h).ptValid = s.ptValid := rfl
@[simp] theorem State.raiseFault_ptX (s : State) (c : FaultCause) (h : Word) : (s.raiseFault c h).ptX = s.ptX := rfl
@[simp] theorem State.raiseFault_ptY (s : State) (c : FaultCause) (h : Word) : (s.raiseFault c h).ptY = s.ptY := rfl
@[simp] theorem State.raiseFault_codeValid (s : State) (c : FaultCause) (h : Word) : (s.raiseFault c h).codeValid = s.codeValid := rfl
@[simp] theorem State.raiseFault_code (s : State) (c : FaultCause) (h : Word) : (s.raiseFault c h).code = s.code := rfl
@[simp] theorem State.raiseFault_xerr (s : State) (c : FaultCause) (h : Word) : (s.raiseFault c h).xerr = s.xerr := rfl
@[simp] theorem State.raiseFault_asm (s : State) (c : FaultCause) (h : Word) : (s.raiseFault c h).asm = s.asm := rfl
@[simp] theorem State.raiseFault_port (s : State) (c : FaultCause) (h : Word) : (s.raiseFault c h).port = s.port := rfl
@[simp] theorem State.raiseFault_env (s : State) (c : FaultCause) (h : Word) : (s.raiseFault c h).env = s.env := rfl
@[simp] theorem State.raiseFault_history (s : State) (c : FaultCause) (h : Word) : (s.raiseFault c h).history = s.history := rfl

/-! ### advance -/

@[simp] theorem State.advance_cfg (s : State) (k : Nat) : (s.advance k).cfg = s.cfg := rfl
@[simp] theorem State.advance_faulted (s : State) (k : Nat) : (s.advance k).faulted = s.faulted := rfl
@[simp] theorem State.advance_fcause (s : State) (k : Nat) : (s.advance k).fcause = s.fcause := rfl
@[simp] theorem State.advance_fidx (s : State) (k : Nat) : (s.advance k).fidx = s.fidx := rfl
@[simp] theorem State.advance_fcmd (s : State) (k : Nat) : (s.advance k).fcmd = s.fcmd := rfl
@[simp] theorem State.advance_cidx (s : State) (k : Nat) : (s.advance k).cidx = s.cidx + BitVec.ofNat 32 (1 + k) := rfl
@[simp] theorem State.advance_init (s : State) (k : Nat) : (s.advance k).init = s.init := rfl
@[simp] theorem State.advance_orient (s : State) (k : Nat) : (s.advance k).orient = s.orient := rfl
@[simp] theorem State.advance_tmask (s : State) (k : Nat) : (s.advance k).tmask = s.tmask := rfl
@[simp] theorem State.advance_maxx (s : State) (k : Nat) : (s.advance k).maxx = s.maxx := rfl
@[simp] theorem State.advance_maxy (s : State) (k : Nat) : (s.advance k).maxy = s.maxy := rfl
@[simp] theorem State.advance_ptValid (s : State) (k : Nat) : (s.advance k).ptValid = s.ptValid := rfl
@[simp] theorem State.advance_ptX (s : State) (k : Nat) : (s.advance k).ptX = s.ptX := rfl
@[simp] theorem State.advance_ptY (s : State) (k : Nat) : (s.advance k).ptY = s.ptY := rfl
@[simp] theorem State.advance_codeValid (s : State) (k : Nat) : (s.advance k).codeValid = s.codeValid := rfl
@[simp] theorem State.advance_code (s : State) (k : Nat) : (s.advance k).code = s.code := rfl
@[simp] theorem State.advance_xerr (s : State) (k : Nat) : (s.advance k).xerr = s.xerr := rfl
@[simp] theorem State.advance_asm (s : State) (k : Nat) : (s.advance k).asm = s.asm := rfl
@[simp] theorem State.advance_port (s : State) (k : Nat) : (s.advance k).port = s.port := rfl
@[simp] theorem State.advance_env (s : State) (k : Nat) : (s.advance k).env = s.env := rfl
@[simp] theorem State.advance_history (s : State) (k : Nat) : (s.advance k).history = s.history := rfl

/-! ### finish -/

@[simp] theorem State.finish_cfg (s : State) (k : Nat) : (s.finish k).cfg = s.cfg := rfl
@[simp] theorem State.finish_faulted (s : State) (k : Nat) : (s.finish k).faulted = s.faulted := rfl
@[simp] theorem State.finish_fcause (s : State) (k : Nat) : (s.finish k).fcause = s.fcause := rfl
@[simp] theorem State.finish_fidx (s : State) (k : Nat) : (s.finish k).fidx = s.fidx := rfl
@[simp] theorem State.finish_fcmd (s : State) (k : Nat) : (s.finish k).fcmd = s.fcmd := rfl
@[simp] theorem State.finish_cidx (s : State) (k : Nat) : (s.finish k).cidx = s.cidx + BitVec.ofNat 32 (1 + k) := rfl
@[simp] theorem State.finish_init (s : State) (k : Nat) : (s.finish k).init = s.init := rfl
@[simp] theorem State.finish_orient (s : State) (k : Nat) : (s.finish k).orient = s.orient := rfl
@[simp] theorem State.finish_tmask (s : State) (k : Nat) : (s.finish k).tmask = s.tmask := rfl
@[simp] theorem State.finish_maxx (s : State) (k : Nat) : (s.finish k).maxx = s.maxx := rfl
@[simp] theorem State.finish_maxy (s : State) (k : Nat) : (s.finish k).maxy = s.maxy := rfl
@[simp] theorem State.finish_ptValid (s : State) (k : Nat) : (s.finish k).ptValid = s.ptValid := rfl
@[simp] theorem State.finish_ptX (s : State) (k : Nat) : (s.finish k).ptX = s.ptX := rfl
@[simp] theorem State.finish_ptY (s : State) (k : Nat) : (s.finish k).ptY = s.ptY := rfl
@[simp] theorem State.finish_codeValid (s : State) (k : Nat) : (s.finish k).codeValid = s.codeValid := rfl
@[simp] theorem State.finish_code (s : State) (k : Nat) : (s.finish k).code = s.code := rfl
@[simp] theorem State.finish_xerr (s : State) (k : Nat) : (s.finish k).xerr = false := rfl
@[simp] theorem State.finish_asm (s : State) (k : Nat) : (s.finish k).asm = s.asm := rfl
@[simp] theorem State.finish_port (s : State) (k : Nat) : (s.finish k).port = s.port := rfl
@[simp] theorem State.finish_env (s : State) (k : Nat) : (s.finish k).env = s.env := rfl
@[simp] theorem State.finish_history (s : State) (k : Nat) : (s.finish k).history = s.history := rfl

/-! ### sampleRead -/

@[simp] theorem State.sampleRead_cfg (s : State) : (s.sampleRead).cfg = s.cfg := rfl
@[simp] theorem State.sampleRead_faulted (s : State) : (s.sampleRead).faulted = s.faulted := rfl
@[simp] theorem State.sampleRead_fcause (s : State) : (s.sampleRead).fcause = s.fcause := rfl
@[simp] theorem State.sampleRead_fidx (s : State) : (s.sampleRead).fidx = s.fidx := rfl
@[simp] theorem State.sampleRead_fcmd (s : State) : (s.sampleRead).fcmd = s.fcmd := rfl
@[simp] theorem State.sampleRead_cidx (s : State) : (s.sampleRead).cidx = s.cidx := rfl
@[simp] theorem State.sampleRead_init (s : State) : (s.sampleRead).init = s.init := rfl
@[simp] theorem State.sampleRead_orient (s : State) : (s.sampleRead).orient = s.orient := rfl
@[simp] theorem State.sampleRead_tmask (s : State) : (s.sampleRead).tmask = s.tmask := rfl
@[simp] theorem State.sampleRead_maxx (s : State) : (s.sampleRead).maxx = s.maxx := rfl
@[simp] theorem State.sampleRead_maxy (s : State) : (s.sampleRead).maxy = s.maxy := rfl
@[simp] theorem State.sampleRead_ptValid (s : State) : (s.sampleRead).ptValid = s.ptValid := rfl
@[simp] theorem State.sampleRead_ptX (s : State) : (s.sampleRead).ptX = s.ptX := rfl
@[simp] theorem State.sampleRead_ptY (s : State) : (s.sampleRead).ptY = s.ptY := rfl
@[simp] theorem State.sampleRead_codeValid (s : State) : (s.sampleRead).codeValid = s.codeValid := rfl
@[simp] theorem State.sampleRead_code (s : State) : (s.sampleRead).code = s.code := rfl
@[simp] theorem State.sampleRead_xerr (s : State) : (s.sampleRead).xerr = s.xerr := rfl
@[simp] theorem State.sampleRead_asm (s : State) : (s.sampleRead).asm = s.asm := rfl
@[simp] theorem State.sampleRead_port (s : State) : (s.sampleRead).port = s.port := rfl
@[simp] theorem State.sampleRead_env (s : State) : (s.sampleRead).env = s.env.afterSample := rfl
@[simp] theorem State.sampleRead_history (s : State) : (s.sampleRead).history = s.history := rfl

/-! ### eventRead -/

@[simp] theorem State.eventRead_cfg (s : State) : (s.eventRead).cfg = s.cfg := rfl
@[simp] theorem State.eventRead_faulted (s : State) : (s.eventRead).faulted = s.faulted := rfl
@[simp] theorem State.eventRead_fcause (s : State) : (s.eventRead).fcause = s.fcause := rfl
@[simp] theorem State.eventRead_fidx (s : State) : (s.eventRead).fidx = s.fidx := rfl
@[simp] theorem State.eventRead_fcmd (s : State) : (s.eventRead).fcmd = s.fcmd := rfl
@[simp] theorem State.eventRead_cidx (s : State) : (s.eventRead).cidx = s.cidx := rfl
@[simp] theorem State.eventRead_init (s : State) : (s.eventRead).init = s.init := rfl
@[simp] theorem State.eventRead_orient (s : State) : (s.eventRead).orient = s.orient := rfl
@[simp] theorem State.eventRead_tmask (s : State) : (s.eventRead).tmask = s.tmask := rfl
@[simp] theorem State.eventRead_maxx (s : State) : (s.eventRead).maxx = s.maxx := rfl
@[simp] theorem State.eventRead_maxy (s : State) : (s.eventRead).maxy = s.maxy := rfl
@[simp] theorem State.eventRead_ptValid (s : State) : (s.eventRead).ptValid = s.ptValid := rfl
@[simp] theorem State.eventRead_ptX (s : State) : (s.eventRead).ptX = s.ptX := rfl
@[simp] theorem State.eventRead_ptY (s : State) : (s.eventRead).ptY = s.ptY := rfl
@[simp] theorem State.eventRead_codeValid (s : State) : (s.eventRead).codeValid = s.codeValid := rfl
@[simp] theorem State.eventRead_code (s : State) : (s.eventRead).code = s.code := rfl
@[simp] theorem State.eventRead_xerr (s : State) : (s.eventRead).xerr = s.xerr := rfl
@[simp] theorem State.eventRead_asm (s : State) : (s.eventRead).asm = s.asm := rfl
@[simp] theorem State.eventRead_port (s : State) : (s.eventRead).port = s.port := rfl
@[simp] theorem State.eventRead_env (s : State) : (s.eventRead).env = s.env.afterEvent := rfl
@[simp] theorem State.eventRead_history (s : State) : (s.eventRead).history = s.history := rfl

/-! ### emit -/

@[simp] theorem State.emit_cfg (s : State) (t : Tx) : (s.emit t).cfg = s.cfg := rfl
@[simp] theorem State.emit_faulted (s : State) (t : Tx) : (s.emit t).faulted = s.faulted := rfl
@[simp] theorem State.emit_fcause (s : State) (t : Tx) : (s.emit t).fcause = s.fcause := rfl
@[simp] theorem State.emit_fidx (s : State) (t : Tx) : (s.emit t).fidx = s.fidx := rfl
@[simp] theorem State.emit_fcmd (s : State) (t : Tx) : (s.emit t).fcmd = s.fcmd := rfl
@[simp] theorem State.emit_cidx (s : State) (t : Tx) : (s.emit t).cidx = s.cidx := rfl
@[simp] theorem State.emit_init (s : State) (t : Tx) : (s.emit t).init = s.init := rfl
@[simp] theorem State.emit_orient (s : State) (t : Tx) : (s.emit t).orient = s.orient := rfl
@[simp] theorem State.emit_tmask (s : State) (t : Tx) : (s.emit t).tmask = s.tmask := rfl
@[simp] theorem State.emit_maxx (s : State) (t : Tx) : (s.emit t).maxx = s.maxx := rfl
@[simp] theorem State.emit_maxy (s : State) (t : Tx) : (s.emit t).maxy = s.maxy := rfl
@[simp] theorem State.emit_ptValid (s : State) (t : Tx) : (s.emit t).ptValid = s.ptValid := rfl
@[simp] theorem State.emit_ptX (s : State) (t : Tx) : (s.emit t).ptX = s.ptX := rfl
@[simp] theorem State.emit_ptY (s : State) (t : Tx) : (s.emit t).ptY = s.ptY := rfl
@[simp] theorem State.emit_codeValid (s : State) (t : Tx) : (s.emit t).codeValid = s.codeValid := rfl
@[simp] theorem State.emit_code (s : State) (t : Tx) : (s.emit t).code = s.code := rfl
@[simp] theorem State.emit_xerr (s : State) (t : Tx) : (s.emit t).xerr = s.xerr := rfl
@[simp] theorem State.emit_asm (s : State) (t : Tx) : (s.emit t).asm = s.asm := rfl
@[simp] theorem State.emit_port (s : State) (t : Tx) : (s.emit t).port = s.port := rfl
@[simp] theorem State.emit_env (s : State) (t : Tx) : (s.emit t).env = s.env.afterAnswer := rfl
@[simp] theorem State.emit_history (s : State) (t : Tx) : (s.emit t).history = s.history ++ [t] := rfl

/-! ### setMask -/

@[simp] theorem State.setMask_cfg (s : State) (m : BitVec 3) : (s.setMask m).cfg = s.cfg := rfl
@[simp] theorem State.setMask_faulted (s : State) (m : BitVec 3) : (s.setMask m).faulted = s.faulted := rfl
@[simp] theorem State.setMask_fcause (s : State) (m : BitVec 3) : (s.setMask m).fcause = s.fcause := rfl
@[simp] theorem State.setMask_fidx (s : State) (m : BitVec 3) : (s.setMask m).fidx = s.fidx := rfl
@[simp] theorem State.setMask_fcmd (s : State) (m : BitVec 3) : (s.setMask m).fcmd = s.fcmd := rfl
@[simp] theorem State.setMask_cidx (s : State) (m : BitVec 3) : (s.setMask m).cidx = s.cidx := rfl
@[simp] theorem State.setMask_init (s : State) (m : BitVec 3) : (s.setMask m).init = s.init := rfl
@[simp] theorem State.setMask_orient (s : State) (m : BitVec 3) : (s.setMask m).orient = s.orient := rfl
@[simp] theorem State.setMask_tmask (s : State) (m : BitVec 3) : (s.setMask m).tmask = m := rfl
@[simp] theorem State.setMask_maxx (s : State) (m : BitVec 3) : (s.setMask m).maxx = maxXOf s.cfg := rfl
@[simp] theorem State.setMask_maxy (s : State) (m : BitVec 3) : (s.setMask m).maxy = maxYOf s.cfg := rfl
@[simp] theorem State.setMask_ptValid (s : State) (m : BitVec 3) : (s.setMask m).ptValid = s.ptValid := rfl
@[simp] theorem State.setMask_ptX (s : State) (m : BitVec 3) : (s.setMask m).ptX = s.ptX := rfl
@[simp] theorem State.setMask_ptY (s : State) (m : BitVec 3) : (s.setMask m).ptY = s.ptY := rfl
@[simp] theorem State.setMask_codeValid (s : State) (m : BitVec 3) : (s.setMask m).codeValid = s.codeValid := rfl
@[simp] theorem State.setMask_code (s : State) (m : BitVec 3) : (s.setMask m).code = s.code := rfl
@[simp] theorem State.setMask_xerr (s : State) (m : BitVec 3) : (s.setMask m).xerr = s.xerr := rfl
@[simp] theorem State.setMask_asm (s : State) (m : BitVec 3) : (s.setMask m).asm = s.asm := rfl
@[simp] theorem State.setMask_port (s : State) (m : BitVec 3) : (s.setMask m).port = s.port := rfl
@[simp] theorem State.setMask_env (s : State) (m : BitVec 3) : (s.setMask m).env = s.env := rfl
@[simp] theorem State.setMask_history (s : State) (m : BitVec 3) : (s.setMask m).history = s.history := rfl

/-! ### consumed -/

@[simp] theorem State.consumed_cfg (s : State) (rest : List Word) : (s.consumed rest).cfg = s.cfg := rfl
@[simp] theorem State.consumed_faulted (s : State) (rest : List Word) : (s.consumed rest).faulted = s.faulted := rfl
@[simp] theorem State.consumed_fcause (s : State) (rest : List Word) : (s.consumed rest).fcause = s.fcause := rfl
@[simp] theorem State.consumed_fidx (s : State) (rest : List Word) : (s.consumed rest).fidx = s.fidx := rfl
@[simp] theorem State.consumed_fcmd (s : State) (rest : List Word) : (s.consumed rest).fcmd = s.fcmd := rfl
@[simp] theorem State.consumed_cidx (s : State) (rest : List Word) : (s.consumed rest).cidx = s.cidx := rfl
@[simp] theorem State.consumed_init (s : State) (rest : List Word) : (s.consumed rest).init = s.init := rfl
@[simp] theorem State.consumed_orient (s : State) (rest : List Word) : (s.consumed rest).orient = s.orient := rfl
@[simp] theorem State.consumed_tmask (s : State) (rest : List Word) : (s.consumed rest).tmask = s.tmask := rfl
@[simp] theorem State.consumed_maxx (s : State) (rest : List Word) : (s.consumed rest).maxx = s.maxx := rfl
@[simp] theorem State.consumed_maxy (s : State) (rest : List Word) : (s.consumed rest).maxy = s.maxy := rfl
@[simp] theorem State.consumed_ptValid (s : State) (rest : List Word) : (s.consumed rest).ptValid = s.ptValid := rfl
@[simp] theorem State.consumed_ptX (s : State) (rest : List Word) : (s.consumed rest).ptX = s.ptX := rfl
@[simp] theorem State.consumed_ptY (s : State) (rest : List Word) : (s.consumed rest).ptY = s.ptY := rfl
@[simp] theorem State.consumed_codeValid (s : State) (rest : List Word) : (s.consumed rest).codeValid = s.codeValid := rfl
@[simp] theorem State.consumed_code (s : State) (rest : List Word) : (s.consumed rest).code = s.code := rfl
@[simp] theorem State.consumed_xerr (s : State) (rest : List Word) : (s.consumed rest).xerr = s.xerr := rfl
@[simp] theorem State.consumed_asm (s : State) (rest : List Word) : (s.consumed rest).asm = [] := rfl
@[simp] theorem State.consumed_port (s : State) (rest : List Word) : (s.consumed rest).port = rest := rfl
@[simp] theorem State.consumed_env (s : State) (rest : List Word) : (s.consumed rest).env = s.env := rfl
@[simp] theorem State.consumed_history (s : State) (rest : List Word) : (s.consumed rest).history = s.history := rfl

/-! ### collect -/

@[simp] theorem State.collect_cfg (s : State) : (s.collect).cfg = s.cfg := rfl
@[simp] theorem State.collect_faulted (s : State) : (s.collect).faulted = s.faulted := rfl
@[simp] theorem State.collect_fcause (s : State) : (s.collect).fcause = s.fcause := rfl
@[simp] theorem State.collect_fidx (s : State) : (s.collect).fidx = s.fidx := rfl
@[simp] theorem State.collect_fcmd (s : State) : (s.collect).fcmd = s.fcmd := rfl
@[simp] theorem State.collect_cidx (s : State) : (s.collect).cidx = s.cidx := rfl
@[simp] theorem State.collect_init (s : State) : (s.collect).init = s.init := rfl
@[simp] theorem State.collect_orient (s : State) : (s.collect).orient = s.orient := rfl
@[simp] theorem State.collect_tmask (s : State) : (s.collect).tmask = s.tmask := rfl
@[simp] theorem State.collect_maxx (s : State) : (s.collect).maxx = s.maxx := rfl
@[simp] theorem State.collect_maxy (s : State) : (s.collect).maxy = s.maxy := rfl
@[simp] theorem State.collect_ptValid (s : State) : (s.collect).ptValid = s.ptValid := rfl
@[simp] theorem State.collect_ptX (s : State) : (s.collect).ptX = s.ptX := rfl
@[simp] theorem State.collect_ptY (s : State) : (s.collect).ptY = s.ptY := rfl
@[simp] theorem State.collect_codeValid (s : State) : (s.collect).codeValid = s.codeValid := rfl
@[simp] theorem State.collect_code (s : State) : (s.collect).code = s.code := rfl
@[simp] theorem State.collect_xerr (s : State) : (s.collect).xerr = s.xerr := rfl
@[simp] theorem State.collect_asm (s : State) : (s.collect).asm = s.asm ++ s.port := rfl
@[simp] theorem State.collect_port (s : State) : (s.collect).port = [] := rfl
@[simp] theorem State.collect_env (s : State) : (s.collect).env = s.env := rfl
@[simp] theorem State.collect_history (s : State) : (s.collect).history = s.history := rfl

/-! ### setPoint -/

@[simp] theorem State.setPoint_cfg (s : State) (p : Option (Int × Int)) : (s.setPoint p).cfg = s.cfg := by cases p <;> rfl
@[simp] theorem State.setPoint_faulted (s : State) (p : Option (Int × Int)) : (s.setPoint p).faulted = s.faulted := by cases p <;> rfl
@[simp] theorem State.setPoint_fcause (s : State) (p : Option (Int × Int)) : (s.setPoint p).fcause = s.fcause := by cases p <;> rfl
@[simp] theorem State.setPoint_fidx (s : State) (p : Option (Int × Int)) : (s.setPoint p).fidx = s.fidx := by cases p <;> rfl
@[simp] theorem State.setPoint_fcmd (s : State) (p : Option (Int × Int)) : (s.setPoint p).fcmd = s.fcmd := by cases p <;> rfl
@[simp] theorem State.setPoint_cidx (s : State) (p : Option (Int × Int)) : (s.setPoint p).cidx = s.cidx := by cases p <;> rfl
@[simp] theorem State.setPoint_init (s : State) (p : Option (Int × Int)) : (s.setPoint p).init = s.init := by cases p <;> rfl
@[simp] theorem State.setPoint_orient (s : State) (p : Option (Int × Int)) : (s.setPoint p).orient = s.orient := by cases p <;> rfl
@[simp] theorem State.setPoint_tmask (s : State) (p : Option (Int × Int)) : (s.setPoint p).tmask = s.tmask := by cases p <;> rfl
@[simp] theorem State.setPoint_maxx (s : State) (p : Option (Int × Int)) : (s.setPoint p).maxx = s.maxx := by cases p <;> rfl
@[simp] theorem State.setPoint_maxy (s : State) (p : Option (Int × Int)) : (s.setPoint p).maxy = s.maxy := by cases p <;> rfl
@[simp] theorem State.setPoint_ptValid (s : State) (p : Option (Int × Int)) : (s.setPoint p).ptValid = p.isSome := by cases p <;> rfl
@[simp] theorem State.setPoint_ptX (s : State) (p : Option (Int × Int)) : (s.setPoint p).ptX = (match p with | some q => BitVec.ofInt 32 q.1 | none => 0) := by cases p <;> rfl
@[simp] theorem State.setPoint_ptY (s : State) (p : Option (Int × Int)) : (s.setPoint p).ptY = (match p with | some q => BitVec.ofInt 32 q.2 | none => 0) := by cases p <;> rfl
@[simp] theorem State.setPoint_codeValid (s : State) (p : Option (Int × Int)) : (s.setPoint p).codeValid = s.codeValid := by cases p <;> rfl
@[simp] theorem State.setPoint_code (s : State) (p : Option (Int × Int)) : (s.setPoint p).code = s.code := by cases p <;> rfl
@[simp] theorem State.setPoint_xerr (s : State) (p : Option (Int × Int)) : (s.setPoint p).xerr = s.xerr := by cases p <;> rfl
@[simp] theorem State.setPoint_asm (s : State) (p : Option (Int × Int)) : (s.setPoint p).asm = s.asm := by cases p <;> rfl
@[simp] theorem State.setPoint_port (s : State) (p : Option (Int × Int)) : (s.setPoint p).port = s.port := by cases p <;> rfl
@[simp] theorem State.setPoint_env (s : State) (p : Option (Int × Int)) : (s.setPoint p).env = s.env := by cases p <;> rfl
@[simp] theorem State.setPoint_history (s : State) (p : Option (Int × Int)) : (s.setPoint p).history = s.history := by cases p <;> rfl

/-! ### setCode -/

@[simp] theorem State.setCode_cfg (s : State) (c : Option (BitVec 16)) : (s.setCode c).cfg = s.cfg := by cases c <;> rfl
@[simp] theorem State.setCode_faulted (s : State) (c : Option (BitVec 16)) : (s.setCode c).faulted = s.faulted := by cases c <;> rfl
@[simp] theorem State.setCode_fcause (s : State) (c : Option (BitVec 16)) : (s.setCode c).fcause = s.fcause := by cases c <;> rfl
@[simp] theorem State.setCode_fidx (s : State) (c : Option (BitVec 16)) : (s.setCode c).fidx = s.fidx := by cases c <;> rfl
@[simp] theorem State.setCode_fcmd (s : State) (c : Option (BitVec 16)) : (s.setCode c).fcmd = s.fcmd := by cases c <;> rfl
@[simp] theorem State.setCode_cidx (s : State) (c : Option (BitVec 16)) : (s.setCode c).cidx = s.cidx := by cases c <;> rfl
@[simp] theorem State.setCode_init (s : State) (c : Option (BitVec 16)) : (s.setCode c).init = s.init := by cases c <;> rfl
@[simp] theorem State.setCode_orient (s : State) (c : Option (BitVec 16)) : (s.setCode c).orient = s.orient := by cases c <;> rfl
@[simp] theorem State.setCode_tmask (s : State) (c : Option (BitVec 16)) : (s.setCode c).tmask = s.tmask := by cases c <;> rfl
@[simp] theorem State.setCode_maxx (s : State) (c : Option (BitVec 16)) : (s.setCode c).maxx = s.maxx := by cases c <;> rfl
@[simp] theorem State.setCode_maxy (s : State) (c : Option (BitVec 16)) : (s.setCode c).maxy = s.maxy := by cases c <;> rfl
@[simp] theorem State.setCode_ptValid (s : State) (c : Option (BitVec 16)) : (s.setCode c).ptValid = s.ptValid := by cases c <;> rfl
@[simp] theorem State.setCode_ptX (s : State) (c : Option (BitVec 16)) : (s.setCode c).ptX = s.ptX := by cases c <;> rfl
@[simp] theorem State.setCode_ptY (s : State) (c : Option (BitVec 16)) : (s.setCode c).ptY = s.ptY := by cases c <;> rfl
@[simp] theorem State.setCode_codeValid (s : State) (c : Option (BitVec 16)) : (s.setCode c).codeValid = c.isSome := by cases c <;> rfl
@[simp] theorem State.setCode_code (s : State) (c : Option (BitVec 16)) : (s.setCode c).code = c.getD 0 := by cases c <;> rfl
@[simp] theorem State.setCode_xerr (s : State) (c : Option (BitVec 16)) : (s.setCode c).xerr = s.xerr := by cases c <;> rfl
@[simp] theorem State.setCode_asm (s : State) (c : Option (BitVec 16)) : (s.setCode c).asm = s.asm := by cases c <;> rfl
@[simp] theorem State.setCode_port (s : State) (c : Option (BitVec 16)) : (s.setCode c).port = s.port := by cases c <;> rfl
@[simp] theorem State.setCode_env (s : State) (c : Option (BitVec 16)) : (s.setCode c).env = s.env := by cases c <;> rfl
@[simp] theorem State.setCode_history (s : State) (c : Option (BitVec 16)) : (s.setCode c).history = s.history := by cases c <;> rfl

/-! ### reset -/

@[simp] theorem State.resetOf_cfg (c : Instantiation) : (State.resetOf c).cfg = c := rfl
@[simp] theorem State.resetOf_faulted (c : Instantiation) : (State.resetOf c).faulted = false := rfl
@[simp] theorem State.resetOf_fcause (c : Instantiation) : (State.resetOf c).fcause = 0 := rfl
@[simp] theorem State.resetOf_fidx (c : Instantiation) : (State.resetOf c).fidx = 0 := rfl
@[simp] theorem State.resetOf_fcmd (c : Instantiation) : (State.resetOf c).fcmd = 0 := rfl
@[simp] theorem State.resetOf_cidx (c : Instantiation) : (State.resetOf c).cidx = 0 := rfl
@[simp] theorem State.resetOf_init (c : Instantiation) : (State.resetOf c).init = false := rfl
@[simp] theorem State.resetOf_orient (c : Instantiation) : (State.resetOf c).orient = BitVec.ofInt 16 c.params.orientReset := rfl
@[simp] theorem State.resetOf_tmask (c : Instantiation) : (State.resetOf c).tmask = c.params.tmaskReset := rfl
@[simp] theorem State.resetOf_maxx (c : Instantiation) : (State.resetOf c).maxx = maxXOf c := rfl
@[simp] theorem State.resetOf_maxy (c : Instantiation) : (State.resetOf c).maxy = maxYOf c := rfl
@[simp] theorem State.resetOf_ptValid (c : Instantiation) : (State.resetOf c).ptValid = false := rfl
@[simp] theorem State.resetOf_ptX (c : Instantiation) : (State.resetOf c).ptX = 0 := rfl
@[simp] theorem State.resetOf_ptY (c : Instantiation) : (State.resetOf c).ptY = 0 := rfl
@[simp] theorem State.resetOf_codeValid (c : Instantiation) : (State.resetOf c).codeValid = false := rfl
@[simp] theorem State.resetOf_code (c : Instantiation) : (State.resetOf c).code = 0 := rfl
@[simp] theorem State.resetOf_xerr (c : Instantiation) : (State.resetOf c).xerr = false := rfl
@[simp] theorem State.resetOf_asm (c : Instantiation) : (State.resetOf c).asm = [] := rfl
@[simp] theorem State.resetOf_port (c : Instantiation) : (State.resetOf c).port = [] := rfl
@[simp] theorem State.resetOf_env (c : Instantiation) : (State.resetOf c).env = Env.unscripted := rfl
@[simp] theorem State.resetOf_history (c : Instantiation) : (State.resetOf c).history = [] := rfl

/-! ### hostReset -/

@[simp] theorem hostReset_cfg (s : State) : (hostReset s).cfg = s.cfg := rfl
@[simp] theorem hostReset_faulted (s : State) : (hostReset s).faulted = false := rfl
@[simp] theorem hostReset_fcause (s : State) : (hostReset s).fcause = 0 := rfl
@[simp] theorem hostReset_fidx (s : State) : (hostReset s).fidx = 0 := rfl
@[simp] theorem hostReset_fcmd (s : State) : (hostReset s).fcmd = 0 := rfl
@[simp] theorem hostReset_cidx (s : State) : (hostReset s).cidx = 0 := rfl
@[simp] theorem hostReset_init (s : State) : (hostReset s).init = false := rfl
@[simp] theorem hostReset_orient (s : State) : (hostReset s).orient = BitVec.ofInt 16 s.cfg.params.orientReset := rfl
@[simp] theorem hostReset_tmask (s : State) : (hostReset s).tmask = s.cfg.params.tmaskReset := rfl
@[simp] theorem hostReset_maxx (s : State) : (hostReset s).maxx = maxXOf s.cfg := rfl
@[simp] theorem hostReset_maxy (s : State) : (hostReset s).maxy = maxYOf s.cfg := rfl
@[simp] theorem hostReset_ptValid (s : State) : (hostReset s).ptValid = false := rfl
@[simp] theorem hostReset_ptX (s : State) : (hostReset s).ptX = 0 := rfl
@[simp] theorem hostReset_ptY (s : State) : (hostReset s).ptY = 0 := rfl
@[simp] theorem hostReset_codeValid (s : State) : (hostReset s).codeValid = false := rfl
@[simp] theorem hostReset_code (s : State) : (hostReset s).code = 0 := rfl
@[simp] theorem hostReset_xerr (s : State) : (hostReset s).xerr = false := rfl
@[simp] theorem hostReset_asm (s : State) : (hostReset s).asm = [] := rfl
@[simp] theorem hostReset_port (s : State) : (hostReset s).port = [] := rfl
@[simp] theorem hostReset_env (s : State) : (hostReset s).env = s.env := rfl
@[simp] theorem hostReset_history (s : State) : (hostReset s).history = s.history := rfl

/-! ### hostWriteAll -/

@[simp] theorem hostWriteAll_cfg (ws : List Word) (s : State) : (hostWriteAll ws s).cfg = s.cfg := rfl
@[simp] theorem hostWriteAll_faulted (ws : List Word) (s : State) : (hostWriteAll ws s).faulted = s.faulted := rfl
@[simp] theorem hostWriteAll_fcause (ws : List Word) (s : State) : (hostWriteAll ws s).fcause = s.fcause := rfl
@[simp] theorem hostWriteAll_fidx (ws : List Word) (s : State) : (hostWriteAll ws s).fidx = s.fidx := rfl
@[simp] theorem hostWriteAll_fcmd (ws : List Word) (s : State) : (hostWriteAll ws s).fcmd = s.fcmd := rfl
@[simp] theorem hostWriteAll_cidx (ws : List Word) (s : State) : (hostWriteAll ws s).cidx = s.cidx := rfl
@[simp] theorem hostWriteAll_init (ws : List Word) (s : State) : (hostWriteAll ws s).init = s.init := rfl
@[simp] theorem hostWriteAll_orient (ws : List Word) (s : State) : (hostWriteAll ws s).orient = s.orient := rfl
@[simp] theorem hostWriteAll_tmask (ws : List Word) (s : State) : (hostWriteAll ws s).tmask = s.tmask := rfl
@[simp] theorem hostWriteAll_maxx (ws : List Word) (s : State) : (hostWriteAll ws s).maxx = s.maxx := rfl
@[simp] theorem hostWriteAll_maxy (ws : List Word) (s : State) : (hostWriteAll ws s).maxy = s.maxy := rfl
@[simp] theorem hostWriteAll_ptValid (ws : List Word) (s : State) : (hostWriteAll ws s).ptValid = s.ptValid := rfl
@[simp] theorem hostWriteAll_ptX (ws : List Word) (s : State) : (hostWriteAll ws s).ptX = s.ptX := rfl
@[simp] theorem hostWriteAll_ptY (ws : List Word) (s : State) : (hostWriteAll ws s).ptY = s.ptY := rfl
@[simp] theorem hostWriteAll_codeValid (ws : List Word) (s : State) : (hostWriteAll ws s).codeValid = s.codeValid := rfl
@[simp] theorem hostWriteAll_code (ws : List Word) (s : State) : (hostWriteAll ws s).code = s.code := rfl
@[simp] theorem hostWriteAll_xerr (ws : List Word) (s : State) : (hostWriteAll ws s).xerr = s.xerr := rfl
@[simp] theorem hostWriteAll_asm (ws : List Word) (s : State) : (hostWriteAll ws s).asm = s.asm := rfl
@[simp] theorem hostWriteAll_port (ws : List Word) (s : State) : (hostWriteAll ws s).port = s.port ++ ws := rfl
@[simp] theorem hostWriteAll_env (ws : List Word) (s : State) : (hostWriteAll ws s).env = s.env := rfl
@[simp] theorem hostWriteAll_history (ws : List Word) (s : State) : (hostWriteAll ws s).history = s.history := rfl

/-- One word written is a list of one word written. -/
theorem hostWrite_eq (w : Word) (s : State) : hostWrite w s = hostWriteAll [w] s := rfl


/-! ### offer, transact: everything but XERR, the environment and the history stays -/

@[simp] theorem State.offer_cfg (s : State) (ts : List Tx) : (s.offer ts).cfg = s.cfg := by
  induction ts generalizing s with
  | nil => rfl
  | cons t more ih =>
    unfold State.offer
    split
    · rw [ih]; rfl
    · rfl
@[simp] theorem State.transact_cfg (s : State) (ts : List Tx) : (s.transact ts).cfg = s.cfg := by
  simp [State.transact]
@[simp] theorem State.offer_faulted (s : State) (ts : List Tx) : (s.offer ts).faulted = s.faulted := by
  induction ts generalizing s with
  | nil => rfl
  | cons t more ih =>
    unfold State.offer
    split
    · rw [ih]; rfl
    · rfl
@[simp] theorem State.transact_faulted (s : State) (ts : List Tx) : (s.transact ts).faulted = s.faulted := by
  simp [State.transact]
@[simp] theorem State.offer_fcause (s : State) (ts : List Tx) : (s.offer ts).fcause = s.fcause := by
  induction ts generalizing s with
  | nil => rfl
  | cons t more ih =>
    unfold State.offer
    split
    · rw [ih]; rfl
    · rfl
@[simp] theorem State.transact_fcause (s : State) (ts : List Tx) : (s.transact ts).fcause = s.fcause := by
  simp [State.transact]
@[simp] theorem State.offer_fidx (s : State) (ts : List Tx) : (s.offer ts).fidx = s.fidx := by
  induction ts generalizing s with
  | nil => rfl
  | cons t more ih =>
    unfold State.offer
    split
    · rw [ih]; rfl
    · rfl
@[simp] theorem State.transact_fidx (s : State) (ts : List Tx) : (s.transact ts).fidx = s.fidx := by
  simp [State.transact]
@[simp] theorem State.offer_fcmd (s : State) (ts : List Tx) : (s.offer ts).fcmd = s.fcmd := by
  induction ts generalizing s with
  | nil => rfl
  | cons t more ih =>
    unfold State.offer
    split
    · rw [ih]; rfl
    · rfl
@[simp] theorem State.transact_fcmd (s : State) (ts : List Tx) : (s.transact ts).fcmd = s.fcmd := by
  simp [State.transact]
@[simp] theorem State.offer_cidx (s : State) (ts : List Tx) : (s.offer ts).cidx = s.cidx := by
  induction ts generalizing s with
  | nil => rfl
  | cons t more ih =>
    unfold State.offer
    split
    · rw [ih]; rfl
    · rfl
@[simp] theorem State.transact_cidx (s : State) (ts : List Tx) : (s.transact ts).cidx = s.cidx := by
  simp [State.transact]
@[simp] theorem State.offer_init (s : State) (ts : List Tx) : (s.offer ts).init = s.init := by
  induction ts generalizing s with
  | nil => rfl
  | cons t more ih =>
    unfold State.offer
    split
    · rw [ih]; rfl
    · rfl
@[simp] theorem State.transact_init (s : State) (ts : List Tx) : (s.transact ts).init = s.init := by
  simp [State.transact]
@[simp] theorem State.offer_orient (s : State) (ts : List Tx) : (s.offer ts).orient = s.orient := by
  induction ts generalizing s with
  | nil => rfl
  | cons t more ih =>
    unfold State.offer
    split
    · rw [ih]; rfl
    · rfl
@[simp] theorem State.transact_orient (s : State) (ts : List Tx) : (s.transact ts).orient = s.orient := by
  simp [State.transact]
@[simp] theorem State.offer_tmask (s : State) (ts : List Tx) : (s.offer ts).tmask = s.tmask := by
  induction ts generalizing s with
  | nil => rfl
  | cons t more ih =>
    unfold State.offer
    split
    · rw [ih]; rfl
    · rfl
@[simp] theorem State.transact_tmask (s : State) (ts : List Tx) : (s.transact ts).tmask = s.tmask := by
  simp [State.transact]
@[simp] theorem State.offer_maxx (s : State) (ts : List Tx) : (s.offer ts).maxx = s.maxx := by
  induction ts generalizing s with
  | nil => rfl
  | cons t more ih =>
    unfold State.offer
    split
    · rw [ih]; rfl
    · rfl
@[simp] theorem State.transact_maxx (s : State) (ts : List Tx) : (s.transact ts).maxx = s.maxx := by
  simp [State.transact]
@[simp] theorem State.offer_maxy (s : State) (ts : List Tx) : (s.offer ts).maxy = s.maxy := by
  induction ts generalizing s with
  | nil => rfl
  | cons t more ih =>
    unfold State.offer
    split
    · rw [ih]; rfl
    · rfl
@[simp] theorem State.transact_maxy (s : State) (ts : List Tx) : (s.transact ts).maxy = s.maxy := by
  simp [State.transact]
@[simp] theorem State.offer_ptValid (s : State) (ts : List Tx) : (s.offer ts).ptValid = s.ptValid := by
  induction ts generalizing s with
  | nil => rfl
  | cons t more ih =>
    unfold State.offer
    split
    · rw [ih]; rfl
    · rfl
@[simp] theorem State.transact_ptValid (s : State) (ts : List Tx) : (s.transact ts).ptValid = s.ptValid := by
  simp [State.transact]
@[simp] theorem State.offer_ptX (s : State) (ts : List Tx) : (s.offer ts).ptX = s.ptX := by
  induction ts generalizing s with
  | nil => rfl
  | cons t more ih =>
    unfold State.offer
    split
    · rw [ih]; rfl
    · rfl
@[simp] theorem State.transact_ptX (s : State) (ts : List Tx) : (s.transact ts).ptX = s.ptX := by
  simp [State.transact]
@[simp] theorem State.offer_ptY (s : State) (ts : List Tx) : (s.offer ts).ptY = s.ptY := by
  induction ts generalizing s with
  | nil => rfl
  | cons t more ih =>
    unfold State.offer
    split
    · rw [ih]; rfl
    · rfl
@[simp] theorem State.transact_ptY (s : State) (ts : List Tx) : (s.transact ts).ptY = s.ptY := by
  simp [State.transact]
@[simp] theorem State.offer_codeValid (s : State) (ts : List Tx) : (s.offer ts).codeValid = s.codeValid := by
  induction ts generalizing s with
  | nil => rfl
  | cons t more ih =>
    unfold State.offer
    split
    · rw [ih]; rfl
    · rfl
@[simp] theorem State.transact_codeValid (s : State) (ts : List Tx) : (s.transact ts).codeValid = s.codeValid := by
  simp [State.transact]
@[simp] theorem State.offer_code (s : State) (ts : List Tx) : (s.offer ts).code = s.code := by
  induction ts generalizing s with
  | nil => rfl
  | cons t more ih =>
    unfold State.offer
    split
    · rw [ih]; rfl
    · rfl
@[simp] theorem State.transact_code (s : State) (ts : List Tx) : (s.transact ts).code = s.code := by
  simp [State.transact]
@[simp] theorem State.offer_asm (s : State) (ts : List Tx) : (s.offer ts).asm = s.asm := by
  induction ts generalizing s with
  | nil => rfl
  | cons t more ih =>
    unfold State.offer
    split
    · rw [ih]; rfl
    · rfl
@[simp] theorem State.transact_asm (s : State) (ts : List Tx) : (s.transact ts).asm = s.asm := by
  simp [State.transact]
@[simp] theorem State.offer_port (s : State) (ts : List Tx) : (s.offer ts).port = s.port := by
  induction ts generalizing s with
  | nil => rfl
  | cons t more ih =>
    unfold State.offer
    split
    · rw [ih]; rfl
    · rfl
@[simp] theorem State.transact_port (s : State) (ts : List Tx) : (s.transact ts).port = s.port := by
  simp [State.transact]

end Sys2Proof.Machine
end

