-- ==== Sys2Proof/Laws/Ops.lean ====
section
/-! SUPPORT. What each shared operation can do, said once: provers cite these and do not unfold the operations. -/

namespace Sys2Proof.Machine

open Sys2Proof.Config

/-! ### transactions -/

@[simp] theorem State.offer_nil (s : State) : s.offer [] = s := rfl

theorem State.offer_cons_ok (s : State) (t : Tx) (more : List Tx) (h : s.env.nextAnswer = .ok) :
    s.offer (t :: more) = (s.emit t).offer more := by
  simp [State.offer, h]

theorem State.offer_cons_fail (s : State) (t : Tx) (more : List Tx) (h : s.env.nextAnswer = .fail) :
    s.offer (t :: more) = { s.emit t with xerr := true } := by
  simp [State.offer, h]

/-- Offering transactions: some first ones are offered and each is answered, XERR becomes 1 exactly when one of those
answers is FAIL, only the last can be, and where none is FAIL all are offered (60_exceptions.md R200). -/
theorem State.offer_spec (s : State) (ts : List Tx) :
    ∃ k, k ≤ ts.length ∧ (s.offer ts).history = s.history ++ ts.take k ∧ (s.offer ts).env = s.env.answered k ∧
      ((s.offer ts).xerr = true ↔ s.xerr = true ∨ Answer.fail ∈ s.env.answersOf k) ∧
      (Answer.fail ∉ s.env.answersOf k → k = ts.length) ∧ Answer.fail ∉ s.env.answersOf (k - 1) := by
  induction ts generalizing s with
  | nil => exact ⟨0, by simp [Env.answered, Env.answersOf]⟩
  | cons t more ih =>
    cases ha : s.env.nextAnswer with
    | ok =>
      obtain ⟨k, hk, hh, he, hx, hf, hl⟩ := ih (s.emit t)
      refine ⟨k + 1, by simpa using hk, ?_, ?_, ?_, ?_, ?_⟩
      · rw [State.offer_cons_ok s t more ha, hh]; simp
      · rw [State.offer_cons_ok s t more ha, he]; rfl
      · rw [State.offer_cons_ok s t more ha, hx]; simp [Env.answersOf, ha]
      · simpa [Env.answersOf, ha] using hf
      · cases k with
        | zero => simp [Env.answersOf]
        | succ k => simpa [Env.answersOf, ha] using hl
    | fail =>
      refine ⟨1, by simp, ?_, ?_, ?_, ?_, ?_⟩
      · rw [State.offer_cons_fail s t more ha]; simp
      · rw [State.offer_cons_fail s t more ha]; rfl
      · rw [State.offer_cons_fail s t more ha]; simp [Env.answersOf, ha]
      · simp [Env.answersOf, ha]
      · simp [Env.answersOf]

/-- A command's transactions, XERR first cleared (the pseudocode of R104, R106, R123). -/
theorem State.transact_spec (s : State) (ts : List Tx) :
    ∃ k, k ≤ ts.length ∧ (s.transact ts).history = s.history ++ ts.take k ∧ (s.transact ts).env = s.env.answered k ∧
      ((s.transact ts).xerr = true ↔ Answer.fail ∈ s.env.answersOf k) ∧
      (Answer.fail ∉ s.env.answersOf k → k = ts.length) ∧ Answer.fail ∉ s.env.answersOf (k - 1) := by
  obtain ⟨k, hk, hh, he, hx, hf⟩ := State.offer_spec { s with xerr := false } ts
  exact ⟨k, hk, hh, he, hx.trans (by simp), hf⟩

/-- A command without transactions clears XERR and nothing else. -/
theorem State.transact_nil (s : State) : s.transact [] = { s with xerr := false } := rfl

/-- A command with one transaction offers it, and XERR says whether it was answered FAIL. -/
theorem State.transact_single (s : State) (t : Tx) :
    s.transact [t] =
      { s with
        xerr := decide (s.env.nextAnswer = .fail), history := s.history ++ [t], env := s.env.afterAnswer } := by
  cases ha : s.env.nextAnswer <;> simp [State.transact, State.offer, State.emit, ha]

/-! ### the input ports -/

/-- A poll runs when its source is connected (43_input.md R170). -/
theorem State.requireSource_of_eq (s : State) (src : Source) (h : Word) (poll : State)
    (hs : s.cfg.params.source = src) : s.requireSource src h poll = poll := by
  simp [State.requireSource, hs]

/-- A poll of the absent source faults (R170). -/
theorem State.requireSource_of_ne (s : State) (src : Source) (h : Word) (poll : State)
    (hs : s.cfg.params.source ≠ src) : s.requireSource src h poll = s.raiseFault .sourceAbsent h := by
  simp [State.requireSource, hs]

/-- What settling a reduction can do: complete with the point and a code or none, or fault (R166, R168). -/
theorem State.settleReduction_cases (s : State) (point : Option (Int × Int)) (h : Word) (r : Reduced) :
    (∃ c, r = .code c ∧ s.settleReduction point h r = ((s.setPoint point).setCode (some c)).finish 0) ∨
    (r = .noInput ∧ s.settleReduction point h r = ((s.setPoint point).setCode none).finish 0) ∨
    (r = .cellRange ∧ s.settleReduction point h r = s.raiseFault .cellRange h) := by
  cases r with
  | code c => exact .inl ⟨c, rfl, rfl⟩
  | noInput => exact .inr (.inl ⟨rfl, rfl⟩)
  | cellRange => exact .inr (.inr ⟨rfl, rfl⟩)

/-- What ZPOLL's writes after the read can be (R162): always a completion, with a code for a point and none for no
touch. -/
theorem State.settleZone_cases (s : State) (point : Option (Int × Int)) :
    ∃ code : Option (BitVec 16), code.isSome = point.isSome ∧
      s.settleZone point = ((s.setPoint point).setCode code).finish 0 := by
  cases point with
  | none => exact ⟨none, rfl, rfl⟩
  | some pt => exact ⟨_, rfl, rfl⟩

/-! ### arithmetic -/

/-- `floorDiv a b` is the greatest integer q with q * b <= a (00_scope.md R12). -/
theorem floorDiv_spec (a b : Int) (hb : 0 < b) : floorDiv a b * b ≤ a ∧ a < (floorDiv a b + 1) * b := by
  constructor
  · exact Int.ediv_mul_le a (by omega)
  · exact Int.lt_ediv_add_one_mul_self a hb

/-- `floorMod a b` lies in 0..b-1 (R12). -/
theorem floorMod_range (a b : Int) (hb : 0 < b) : 0 ≤ floorMod a b ∧ floorMod a b < b := by
  obtain ⟨h1, h2⟩ := floorDiv_spec a b hb
  rw [Int.add_mul, Int.one_mul] at h2
  unfold floorMod
  rw [Int.mul_comm b]
  omega

end Sys2Proof.Machine

namespace Sys2Proof.Config

/-! ### what a legal configuration gives -/

/-- The ranges of R8, from the proof an instantiation carries. -/
theorem Instantiation.ranges (c : Instantiation) :
    (1 ≤ c.params.width ∧ c.params.width ≤ 65535) ∧ (1 ≤ c.params.height ∧ c.params.height ≤ 65535) ∧
    c.params.offX ≤ 65535 ∧ c.params.offY ≤ 65535 ∧
    (-4 ≤ c.params.orientReset ∧ c.params.orientReset ≤ 255) ∧
    (1 ≤ c.params.rows ∧ c.params.rows ≤ 255) ∧ (1 ≤ c.params.cols ∧ c.params.cols ≤ 255) := by
  have h := c.legal
  simp only [Params.legal, Bool.and_eq_true, decide_eq_true_eq] at h
  obtain ⟨⟨⟨⟨⟨⟨⟨⟨hw, hh⟩, hx⟩, hy⟩, _⟩, ho⟩, hr⟩, hc⟩, _⟩ := h
  exact ⟨hw, hh, hx, hy, ho, hr, hc⟩

/-- A legal key table has an entry for every cell (R8, R165). -/
theorem Instantiation.keytab_long (c : Instantiation) (codes : List (BitVec 16))
    (hk : c.params.keytab = some codes) : c.params.rows * c.params.cols ≤ codes.length := by
  have h := c.legal
  simp only [Params.legal, Bool.and_eq_true, hk, decide_eq_true_eq] at h
  exact h.2

end Sys2Proof.Config

namespace Sys2Proof.Machine

open Sys2Proof.Config

/-! ### the step -/

/-- An illegal header is the first word, and only it is taken (30_encoding.md R76, R77). -/
theorem decode_illegal_eq (words rest : List Word) (why : IllegalHeader) (h : Word)
    (hd : decode words = .illegal why h rest) : words = h :: rest := by
  cases words with
  | nil => cases hd
  | cons w tail =>
    simp only [decode] at hd
    split at hd
    · cases hd; rfl
    · split at hd
      · cases hd; rfl
      · split at hd <;> cases hd

/-- What `fetch` can find (20_memory.md R52). -/
theorem fetch_cases (s : State) :
    (∃ i rest, decode s.stream = .command i rest ∧ fetch s = .run i (s.consumed rest)) ∨
    (∃ why h rest, decode s.stream = .illegal why h rest ∧ fetch s = .illegal h (s.consumed rest)) ∨
    (decode s.stream = .incomplete ∧ s.port ≠ [] ∧ fetch s = .collecting s.collect) ∨
    (decode s.stream = .incomplete ∧ s.port = [] ∧ fetch s = .hold) := by
  unfold fetch
  cases hd : decode s.stream with
  | command i rest => exact .inl ⟨i, rest, rfl, rfl⟩
  | illegal why h rest => exact .inr (.inl ⟨why, h, rest, rfl, rfl⟩)
  | incomplete =>
    cases hp : s.port with
    | nil => exact .inr (.inr (.inr ⟨rfl, rfl, by simp⟩))
    | cons w ws => exact .inr (.inr (.inl ⟨rfl, by simp, by simp⟩))

/-- What a step that answers a next state has done: it ran a command, faulted on an illegal header, or collected
words; and the engine was not halted. -/
theorem step_next_cases (s t : State) (h : step s = .next t) :
    s.faulted = false ∧
    ((∃ i rest, decode s.stream = .command i rest ∧ exec i (s.consumed rest) = .next t) ∨
     (∃ why hd rest, decode s.stream = .illegal why hd rest ∧ t = (s.consumed rest).raiseFault .illegalCmd hd) ∨
     (decode s.stream = .incomplete ∧ s.port ≠ [] ∧ t = s.collect)) := by
  unfold step at h
  cases hf : s.faulted with
  | true => rw [if_pos hf] at h; cases h
  | false =>
    rw [if_neg (by simp [hf])] at h
    refine ⟨rfl, ?_⟩
    rcases fetch_cases s with ⟨i, rest, hd, he⟩ | ⟨why, hw, rest, hd, he⟩ | ⟨hd, hp, he⟩ | ⟨hd, hp, he⟩
    · rw [he] at h; exact .inl ⟨i, rest, hd, h⟩
    · rw [he] at h; cases h; exact .inr (.inl ⟨why, hw, rest, hd, rfl⟩)
    · rw [he] at h; cases h; exact .inr (.inr ⟨hd, hp, rfl⟩)
    · rw [he] at h; cases h

end Sys2Proof.Machine
end

