-- ==== Sys2Proof/Laws/PerInstr.lean ====
section
/-! SUPPORT. The shape of every command's encoding, one lemma per constructor of Instr (30_encoding.md R71 to R74). -/

namespace Sys2Proof.Laws

/-- A command encodes to as many words as its opcode's length says, and its header carries its opcode and its IMM8,
which is zero in every format but FI. -/
def EncodedShape.Statement (i : Instr) : Prop :=
  (encode i).length = i.words ∧
  opcodeOf (headerOpc i.header) = some i.opcode ∧
  headerImm i.header = i.imm8 ∧
  (i.opcode.format ≠ .fi → i.imm8 = 0)

/-- A header built from two bytes has them as its OPC and its IMM8 (R71). -/
theorem headerOpc_append (o m : BitVec 8) : headerOpc (o ++ m) = o := by
  apply BitVec.eq_of_getLsbD_eq
  intro i hi
  have h := BitVec.getLsbD_append (x := o) (y := m) (i := 8 + i)
  simp only [headerOpc, BitVec.getLsbD_extractLsb', hi, decide_true, Bool.true_and]
  exact h.trans (by simp)

theorem headerImm_append (o m : BitVec 8) : headerImm (o ++ m) = m := by
  apply BitVec.eq_of_getLsbD_eq
  intro i hi
  have h := BitVec.getLsbD_append (x := o) (y := m) (i := 0 + i)
  simp only [headerImm, BitVec.getLsbD_extractLsb', hi, decide_true, Bool.true_and]
  exact h.trans (by simp [hi])

/-- The opcode of an OPC value (R74), read back from its code. -/
theorem opcodeOf_code (o : Opcode) : opcodeOf o.code = some o := by
  cases o <;> decide

theorem encodedShape_of (i : Instr) (hl : (encode i).length = i.words) (hm : i.opcode.format ≠ .fi → i.imm8 = 0) :
    EncodedShape.Statement i :=
  ⟨hl, by rw [Instr.header, headerOpc_append, opcodeOf_code], by rw [Instr.header, headerImm_append], hm⟩

theorem EncodedShape.setOrient (value : Word) : EncodedShape.Statement (.setOrient value) :=
  encodedShape_of _ rfl fun _ => rfl

theorem EncodedShape.init : EncodedShape.Statement .init :=
  encodedShape_of _ rfl fun _ => rfl

theorem EncodedShape.blit (x y width height : Word) (buf : Handle) :
    EncodedShape.Statement (.blit x y width height buf) :=
  encodedShape_of _ rfl fun _ => rfl

theorem EncodedShape.setTrot (degrees : Word) : EncodedShape.Statement (.setTrot degrees) :=
  encodedShape_of _ rfl fun _ => rfl

theorem EncodedShape.setTmask (mask : BitVec 8) : EncodedShape.Statement (.setTmask mask) :=
  encodedShape_of _ rfl fun h => absurd rfl h

theorem EncodedShape.tpoll : EncodedShape.Statement .tpoll :=
  encodedShape_of _ rfl fun _ => rfl

theorem EncodedShape.zpoll : EncodedShape.Statement .zpoll :=
  encodedShape_of _ rfl fun _ => rfl

theorem EncodedShape.gpoll : EncodedShape.Statement .gpoll :=
  encodedShape_of _ rfl fun _ => rfl

theorem EncodedShape.epoll : EncodedShape.Statement .epoll :=
  encodedShape_of _ rfl fun _ => rfl

/-! ### header words (R74) -/

@[simp] theorem header_setOrient (value : Word) : (Instr.setOrient value).header = 0x1000 :=
  show (Opcode.code .setOrient ++ (0 : BitVec 8) : BitVec 16) = 0x1000 by decide
@[simp] theorem header_init : Instr.init.header = 0x1100 := by decide
@[simp] theorem header_blit (x y width height : Word) (buf : Handle) :
    (Instr.blit x y width height buf).header = 0x1200 :=
  show (Opcode.code .blit ++ (0 : BitVec 8) : BitVec 16) = 0x1200 by decide
@[simp] theorem header_setTrot (degrees : Word) : (Instr.setTrot degrees).header = 0x2000 :=
  show (Opcode.code .setTrot ++ (0 : BitVec 8) : BitVec 16) = 0x2000 by decide
@[simp] theorem header_tpoll : Instr.tpoll.header = 0x2200 := by decide
@[simp] theorem header_zpoll : Instr.zpoll.header = 0x3000 := by decide
@[simp] theorem header_gpoll : Instr.gpoll.header = 0x3100 := by decide
@[simp] theorem header_epoll : Instr.epoll.header = 0x3200 := by decide

end Sys2Proof.Laws
end

