-- ==== Sys2Proof/Laws/Exec.lean ====
section
/-! SUPPORT. What a command can do, said once over all commands: fault, offer transactions, set the mask, or report a
poll. Claims about every command follow from this and the update lemmas. -/

namespace Sys2Proof.Machine

open Sys2Proof.Config

/-- A command that faults: the fault record of its own header, and before CELL_RANGE the poll's read (R191); never
ILLEGAL_CMD, which is the header's fault (R76, R77). -/
def FaultsAs (i : Instr) (s t : State) : Prop :=
  ∃ (c : FaultCause) (e : Env), t = { s with env := e }.raiseFault c i.header ∧ c ≠ .illegalCmd ∧
    (c ≠ .cellRange → e = s.env) ∧
    (c = .cellRange → (i = .gpoll ∧ e = s.env.afterSample) ∨ (i = .epoll ∧ e = s.env.afterEvent))

/-- A command that offers transactions: SET_ORIENT (none while INIT = 0), INIT, BLIT (R104, R106, R123). -/
def TransactsAs (i : Instr) (s t : State) : Prop :=
  (∃ v ts, i = .setOrient v ∧ -4 ≤ v.toInt ∧ v.toInt ≤ 255 ∧
    ts = (if s.init then [madctlWrite s.cfg.params v.toInt] else []) ∧
    t = ({ s with orient := v }.transact ts).advance 1) ∨
  (i = .init ∧ t = ({ s with init := true }.transact [madctlWrite s.cfg.params s.orient.toInt]).advance 0) ∨
  (∃ x y w h buf, i = .blit x y w h buf ∧ (blitWindow s.cfg.params x y w h).Legal ∧
    t = (s.transact (blitTransactions (blitWindow s.cfg.params x y w h) buf)).advance 6)

/-- A command that sets the rotation mask: SET_TROT, SET_TMASK (R142, R143). -/
def SetsMaskAs (i : Instr) (s t : State) : Prop :=
  (∃ d, i = .setTrot d ∧ t = (s.setMask rotationMasks[rotationIndex d.toInt]).finish 1) ∨
  (∃ m, i = .setTmask m ∧ t = (s.setMask (maskOperand m)).finish 0)

/-- A poll that completes: one read, both result groups written (R146, R162, R166, R168). -/
def PollsAs (i : Instr) (s t : State) : Prop :=
  ∃ (e : Env) (point : Option (Int × Int)) (code : Option (BitVec 16)),
    t = (({ s with env := e }.setPoint point).setCode code).finish 0 ∧
    (((i = .tpoll ∨ i = .zpoll ∨ i = .gpoll) ∧ e = s.env.afterSample ∧ point = s.acquired) ∨
     (i = .epoll ∧ e = s.env.afterEvent ∧ point = none))

/-- What a command can do: exactly one of the four (20_memory.md R57). -/
theorem exec_next_cases (i : Instr) (s t : State) (h : exec i s = .next t) :
    FaultsAs i s t ∨ TransactsAs i s t ∨ SetsMaskAs i s t ∨ PollsAs i s t := by
  have faults : ∀ c : FaultCause, c ≠ .illegalCmd → c ≠ .cellRange → FaultsAs i s (s.raiseFault c i.header) :=
    fun c hi hc => ⟨c, s.env, rfl, hi, fun _ => rfl, fun h => absurd h hc⟩
  cases i with
  | setOrient v =>
    simp only [exec, execSetOrient, Host.Outcome.next.injEq] at h
    subst h
    split
    · exact .inl (faults .orientIndex (by decide) (by decide))
    · split
      · exact .inl (faults .orientRange (by decide) (by decide))
      · rename_i h1 h2
        simp only [signedOperand] at h1 h2 ⊢
        exact .inr (.inl (.inl ⟨v, _, rfl, by omega, by omega, rfl, rfl⟩))
  | init =>
    simp only [exec, execInit, Host.Outcome.next.injEq] at h
    subst h
    exact .inr (.inl (.inr (.inl ⟨rfl, rfl⟩)))
  | blit x y w hh buf =>
    simp only [exec, execBlit, Host.Outcome.next.injEq] at h
    subst h
    split
    · rename_i hl
      exact .inr (.inl (.inr (.inr ⟨x, y, w, hh, buf, rfl, hl, rfl⟩)))
    · exact .inl (faults .windowRange (by decide) (by decide))
  | setTrot d =>
    simp only [exec, execSetTrot, Host.Outcome.next.injEq] at h
    subst h
    exact .inr (.inr (.inl (.inl ⟨d, rfl, rfl⟩)))
  | setTmask m =>
    simp only [exec, execSetTmask, Host.Outcome.next.injEq] at h
    subst h
    exact .inr (.inr (.inl (.inr ⟨m, rfl, rfl⟩)))
  | tpoll =>
    simp only [exec, execTpoll, Host.Outcome.next.injEq, State.requireSource] at h
    subst h
    split
    · exact .inr (.inr (.inr ⟨_, s.acquired, none, rfl, .inl ⟨.inl rfl, rfl, rfl⟩⟩))
    · exact .inl (faults .sourceAbsent (by decide) (by decide))
  | zpoll =>
    simp only [exec, execZpoll, Host.Outcome.next.injEq, State.requireSource] at h
    subst h
    split
    · obtain ⟨code, _, hz⟩ := s.sampleRead.settleZone_cases s.acquired
      exact .inr (.inr (.inr ⟨_, s.acquired, code, hz, .inl ⟨.inr (.inl rfl), rfl, rfl⟩⟩))
    · exact .inl (faults .sourceAbsent (by decide) (by decide))
  | gpoll =>
    simp only [exec, execGpoll, Host.Outcome.next.injEq, State.requireSource] at h
    subst h
    split
    · rcases s.sampleRead.settleReduction_cases s.acquired Instr.gpoll.header
        (reduceTouch s.cfg.params s.acquired) with ⟨c, _, hz⟩ | ⟨_, hz⟩ | ⟨_, hz⟩
      · exact .inr (.inr (.inr ⟨_, s.acquired, some c, hz, .inl ⟨.inr (.inr rfl), rfl, rfl⟩⟩))
      · exact .inr (.inr (.inr ⟨_, s.acquired, none, hz, .inl ⟨.inr (.inr rfl), rfl, rfl⟩⟩))
      · exact .inl ⟨.cellRange, _, hz, by decide, fun hc => absurd rfl hc, fun _ => .inl ⟨rfl, rfl⟩⟩
    · exact .inl (faults .sourceAbsent (by decide) (by decide))
  | epoll =>
    simp only [exec, execEpoll, Host.Outcome.next.injEq, State.requireSource] at h
    subst h
    split
    · rcases s.eventRead.settleReduction_cases none Instr.epoll.header
        (reduceEvent s.cfg.params s.env.nextEvent) with ⟨c, _, hz⟩ | ⟨_, hz⟩ | ⟨_, hz⟩
      · exact .inr (.inr (.inr ⟨_, none, some c, hz, .inr ⟨rfl, rfl, rfl⟩⟩))
      · exact .inr (.inr (.inr ⟨_, none, none, hz, .inr ⟨rfl, rfl, rfl⟩⟩))
      · exact .inl ⟨.cellRange, _, hz, by decide, fun hc => absurd rfl hc, fun _ => .inr ⟨rfl, rfl⟩⟩
    · exact .inl (faults .sourceAbsent (by decide) (by decide))

end Sys2Proof.Machine
end

