-- ==== Sys2Proof/Tests/Slice0.lean ====
section
/-! SUPPORT. Tests of the model on the vectors of spec/95_test_vectors.md (their ids stand in the comments), the
smoke tests of WellFormed, and a witness for the hypotheses of every statement. -/

namespace Sys2Proof.Tests

open Sys2Proof.Machine Sys2Proof.Config

/-! ### Configurations TC1, TC2, TC3 of 95_test_vectors.md section 0 -/

def paramsTC1 : Params where
  width := 240
  height := 320
  offX := 0
  offY := 80
  bpp := 16
  cbo := true
  ot := #v[0x40, 0x20, 0x80, 0xE0]
  orientReset := -1
  tmaskReset := 0
  rows := 3
  cols := 3
  keytab := none
  source := .coord

def tc1 : Instantiation := ⟨paramsTC1, by decide⟩

def tc2 : Instantiation := ⟨{ paramsTC1 with width := 300, height := 300, offY := 0, cbo := false }, by decide⟩

def tc3 : Instantiation :=
  ⟨{ paramsTC1 with width := 320, height := 480, offY := 0, cbo := false, tmaskReset := 7, source := .event }, by decide⟩

/-- TC3 with P_SOURCE changed to COORD and mask 0, the configuration of the grid vectors (section 2.6). -/
def tcGrid : Instantiation :=
  ⟨{ paramsTC1 with width := 320, height := 480, offY := 0, cbo := false }, by decide⟩

/-- The grid configuration with the key table of section 2.6. -/
def tcKeys : Instantiation :=
  ⟨{ tcGrid.params with keytab := some [10, 11, 12, 13, 14, 15, 16, 17, 18] }, by decide⟩

/-- An instance after reset with the transport's next answers. -/
def answering (c : Instantiation) (as : List Answer) : State :=
  { State.resetOf c with env := { Env.unscripted with answers := as } }

/-- An instance after reset with INIT = 1 and the transport's next answers. -/
def initialised (c : Instantiation) (as : List Answer) : State := { answering c as with init := true }

/-- An instance after reset with a rotation mask and the sensor's next sample. -/
def touching (c : Instantiation) (mask : BitVec 3) (x : Sample) : State :=
  { State.resetOf c with tmask := mask, env := { Env.unscripted with samples := [x] } }

/-- An instance after reset with the source's next event. -/
def typing (c : Instantiation) (e : Event) : State :=
  { State.resetOf c with env := { Env.unscripted with events := [e] } }

/-- An instance after reset with words at the port. -/
def fed (c : Instantiation) (ws : List Word) : State := hostWriteAll ws (State.resetOf c)

/-- The next state of an outcome. -/
def after (o : Host.Outcome State Fault Refusal) : Option State :=
  match o with
  | .next s => some s
  | .fault _ => none
  | .refused _ => none

/-- A view of the next state of an outcome. -/
def seen {α : Type} (view : State → α) (o : Host.Outcome State Fault Refusal) : Option α := (after o).map view

/-- Whether parameters have an instance. -/
def instanceOf (p : Params) : Bool :=
  match instantiate p with
  | .ok _ => true
  | .error _ => false

/-- The fault record and CIDX (R191). -/
def faultView (s : State) : Bool × BitVec 8 × BitVec 32 × Word × BitVec 32 :=
  (s.faulted, s.fcause, s.fidx, s.fcmd, s.cidx)

/-- PT and CODE as integers. -/
def resultView (s : State) : Bool × Int × Int × Bool × Nat :=
  (s.ptValid, s.ptX.toInt, s.ptY.toInt, s.codeValid, s.code.toNat)

/-- Transactions, XERR and CIDX. -/
def busView (s : State) : List Tx × Bool × BitVec 32 := (s.history, s.xerr, s.cidx)

/-! ### WellFormed: an ill-formed term for each check -/

theorem test_wf_value_range : (AsmLine.setOrient 32768).wellFormed = false ∧ (AsmLine.setOrient (-32769)).wellFormed = false := by decide
theorem test_wf_degrees_range : (AsmLine.setTrot 32768).wellFormed = false ∧ (AsmLine.setTrot (-32769)).wellFormed = false := by decide
theorem test_wf_mask_range : (AsmLine.setTmask 256).wellFormed = false ∧ (AsmLine.setTmask (-1)).wellFormed = false := by decide
theorem test_wf_blit_ranges :
    (AsmLine.blit 65536 0 0 0 0).wellFormed = false ∧ (AsmLine.blit 0 (-1) 0 0 0).wellFormed = false ∧
    (AsmLine.blit 0 0 65536 0 0).wellFormed = false ∧ (AsmLine.blit 0 0 0 65536 0).wellFormed = false ∧
    (AsmLine.blit 0 0 0 0 0x100000000).wellFormed = false := by decide
theorem test_wf_command_opcode : wellFormedCommand [0x1300] = false := by decide
theorem test_wf_command_immediate : wellFormedCommand [0x2201] = false := by decide
theorem test_wf_command_length : wellFormedCommand [0x1000] = false ∧ wellFormedCommand [0x1100, 0] = false ∧ wellFormedCommand [] = false := by decide
theorem test_wf_accepts : wellFormedCommand [0x21FF] = true ∧ wellFormedCommand [0x2000, 90] = true := by decide
theorem test_params_refused :
    ({ paramsTC1 with width := 0 } : Params).legal = false ∧ ({ paramsTC1 with height := 65536 } : Params).legal = false ∧
    ({ paramsTC1 with offX := 65536 } : Params).legal = false ∧ ({ paramsTC1 with offY := 65536 } : Params).legal = false ∧
    ({ paramsTC1 with bpp := 12 } : Params).legal = false ∧ ({ paramsTC1 with orientReset := -5 } : Params).legal = false ∧
    ({ paramsTC1 with rows := 256 } : Params).legal = false ∧ ({ paramsTC1 with cols := 0 } : Params).legal = false ∧
    ({ paramsTC1 with keytab := some [1, 2] } : Params).legal = false := by decide

/-! ### Decoding: every command's words, written out from R72, R74, R78 (the examples of R84) -/

theorem test_decode_setOrient : decode [0b0001000000000000, 0b1111111111111100] = .command (.setOrient 0xFFFC) [] := by decide
theorem test_decode_init : decode [0b0001000100000000] = .command .init [] := by decide
theorem test_decode_blit :
    decode [0b0001001000000000, 1, 2, 3, 4, 0b1101111010101101, 0b1011111011101111, 9]
      = .command (.blit 1 2 3 4 0xDEADBEEF) [9] := by decide
theorem test_decode_setTrot : decode [0b0010000000000000, 0b1111111110100110] = .command (.setTrot 0xFFA6) [] := by decide
theorem test_decode_setTmask : decode [0b0010000110000101] = .command (.setTmask 0b10000101) [] := by decide
theorem test_decode_tpoll : decode [0b0010001000000000] = .command .tpoll [] := by decide
theorem test_decode_zpoll : decode [0b0011000000000000] = .command .zpoll [] := by decide
theorem test_decode_gpoll : decode [0b0011000100000000] = .command .gpoll [] := by decide
theorem test_decode_epoll : decode [0b0011001000000000] = .command .epoll [] := by decide
/-- E1 to E7. -/
theorem test_decode_illegal :
    decode [0x0000, 1] = .illegal .unassignedOpcode 0x0000 [1] ∧ decode [0xFFFF] = .illegal .unassignedOpcode 0xFFFF [] ∧
    decode [0x1300] = .illegal .unassignedOpcode 0x1300 [] ∧ decode [0x1001] = .illegal .reservedImmediate 0x1001 [] ∧
    decode [0x1280, 2] = .illegal .reservedImmediate 0x1280 [2] := by decide
/-- The opcode table's rows as the host numbers them. -/
theorem test_decode_table_words :
    [0x1000, 0x1100, 0x1200, 0x2000, 0x2105, 0x2200, 0x3000, 0x3100, 0x3200].map (decodeTableWord 16) =
      [some (.setOrient 0), some .init, some (.blit 0 0 0 0 0), some (.setTrot 0), some (.setTmask 5), some .tpoll,
       some .zpoll, some .gpoll, some .epoll] := by decide
/-- A row's second word counts on from bit 16. -/
theorem test_decode_second_word : decodeTableWord 32 0x005A2000 = some (.setTrot 90) := by decide
/-- Every row runs as the first step after reset. -/
theorem test_rows_run_from_reset :
    [0x1000, 0x1100, 0x1200, 0x2000, 0x2105, 0x2200, 0x3000, 0x3100, 0x3200].all
      (fun w => (after (step (State.reset.withFetchWord 16 w))).isSome) = true := by decide

/-! ### The assembler -/

theorem test_asm_program :
    assembleText "SET_ORIENT LANDSCAPE ; deferred\n\nBLIT 0, 0, 240, 0xF0, 0x00010000\nSET_TMASK SWAP_XY | INVERT_Y" =
      some [0x1000, 0xFFFE, 0x1200, 0, 0, 0x00F0, 0x00F0, 0x0001, 0x0000, 0x2105] := by decide
theorem test_asm_errors :
    assembleText "SET_ORIENT 32768" = none ∧ assembleText "NOP" = none ∧ assembleText "INIT 1" = none ∧
    assembleText "SET_TROT PORTRAIT" = none := by decide

/-! ### Orientation (section 2.2) -/

/-- O1 to O9. -/
theorem test_orient_patterns :
    [-1, -2, -3, -4, 0, 0x08, 0x60, 0xFF, 0xF7].map (orientPattern tc1.params) =
      [0x48, 0x28, 0x88, 0xE8, 0x08, 0x08, 0x68, 0xFF, 0xFF] ∧
    [-1, -2, -3, -4, 0, 0x08, 0x60, 0xFF, 0xF7].map (orientPattern tc2.params) =
      [0x40, 0x20, 0x80, 0xE0, 0x00, 0x08, 0x60, 0xFF, 0xF7] := by decide
/-- O24. -/
theorem test_setOrient_fail :
    seen busView (exec (.setOrient 0xFFFD) (initialised tc1 [.fail])) = some ([.wr 0x36 [0x88]], true, 2) := by decide
/-- O16, O18. -/
theorem test_setOrient_faults :
    seen faultView (exec (.setOrient 0xFFFB) (answering tc1 [])) = some (true, 0x02, 0, 0x1000, 0) ∧
    seen faultView (exec (.setOrient 0x0100) (answering tc1 [])) = some (true, 0x03, 0, 0x1000, 0) := by decide
/-- O21, O23. -/
theorem test_init :
    seen busView (exec .init (answering tc1 [.ok])) = some ([.wr 0x36 [0x48]], false, 1) ∧
    seen (fun s => (s.init, s.xerr)) (exec .init (answering tc1 [.fail])) = some (true, true) := by decide

/-! ### Addressing (section 2.3) -/

/-- A1. -/
theorem test_blit_window :
    seen busView (exec (.blit 0 0 240 240 0x00010000) (answering tc1 [.ok, .ok, .ok])) =
      some ([.wr 0x2A [0x00, 0x00, 0x00, 0xEF], .wr 0x2B [0x00, 0x50, 0x01, 0x3F],
             .px 0x2C 0x00010000 0 80 239 319], false, 7) := by decide
/-- A13, A5. -/
theorem test_blit_fail_and_fault :
    seen busView (exec (.blit 10 20 1 1 0) (answering tc1 [.ok, .fail])) =
      some ([.wr 0x2A [0x00, 0x0A, 0x00, 0x0A], .wr 0x2B [0x00, 0x64, 0x00, 0x64]], true, 7) ∧
    seen faultView (exec (.blit 65535 0 2 1 0) (answering tc1 [])) = some (true, 0x04, 0, 0x1200, 0) := by decide

/-! ### Touch (section 2.4) -/

/-- T2 to T4, T8 to T15. -/
theorem test_setTrot :
    ([90, 180, 270, 89, -1, -90, -91, -180, -270, 32767, -32768] : List Int).map
        (fun d => seen (·.tmask) (exec (.setTrot (BitVec.ofInt 16 d)) (answering tc1 []))) =
      [some 5, some 6, some 3, some 0, some 3, some 3, some 6, some 6, some 5, some 0, some 3] := by decide
theorem test_setTmask :
    ([0x00, 0x05, 0x08, 0xFF] : List (BitVec 8)).map (fun m => seen (·.tmask) (exec (.setTmask m) (answering tc1 []))) =
      [some 0, some 5, some 0, some 7] := by decide
/-- T20 to T27. -/
theorem test_tpoll_masks :
    ([0, 1, 2, 3, 4, 5, 6, 7] : List (BitVec 3)).map
        (fun m => seen (fun s => (s.ptX.toInt, s.ptY.toInt)) (exec .tpoll (touching tc1 m (.point 10 20)))) =
      [some (10, 20), some (20, 10), some (229, 20), some (219, 10), some (10, 299), some (20, 309), some (229, 299),
       some (219, 309)] := by decide
/-- T32, T34, T37, T38. -/
theorem test_tpoll_samples :
    seen resultView (exec .tpoll (touching tc1 0 .notReady)) = some (false, 0, 0, false, 0) ∧
    seen resultView (exec .tpoll (touching tc1 0 (.list [(5, 6), (7, 8)]))) = some (true, 5, 6, false, 0) ∧
    seen resultView (exec .tpoll (touching tc1 7 (.point 65535 65535))) = some (true, -65296, -65216, false, 0) ∧
    seen faultView (exec .tpoll (typing tc3 .none)) = some (true, 0x06, 0, 0x2200, 0) :=
  ⟨by decide, by decide, by decide, by decide⟩

/-! ### Discretizer (sections 2.5 to 2.7) -/

/-- Z1 to Z14. -/
theorem test_zpoll_zones :
    ([(10, 10), (150, 150), (290, 290), (290, 10), (10, 290), (150, 10), (10, 150), (290, 150), (150, 290), (99, 99),
      (100, 100), (200, 200), (201, 201), (299, 0)] : List (BitVec 16 × BitVec 16)).map
        (fun p => seen (·.code.toNat) (exec .zpoll (touching tc2 0 (.point p.1 p.2)))) =
      [7, 5, 3, 9, 1, 8, 4, 6, 2, 7, 5, 5, 3, 9].map some := by decide
/-- TMASK 0b010 and POINT(400, 10): band 0, code 7. -/
theorem test_zpoll_negative :
    seen resultView (exec .zpoll (touching tc2 2 (.point 400 10))) = some (true, -101, 10, true, 7) := by decide
/-- G1 to G7, and the key table. -/
theorem test_gpoll_cells :
    ([(200, 400), (0, 0), (319, 479), (106, 159), (107, 160), (213, 319), (214, 320)] : List (BitVec 16 × BitVec 16)).map
        (fun p => seen (·.code.toNat) (exec .gpoll (touching tcGrid 0 (.point p.1 p.2)))) =
      [8, 1, 9, 1, 5, 5, 9].map some ∧
    seen (·.code.toNat) (exec .gpoll (touching tcKeys 0 (.point 200 400))) = some 17 := by decide
/-- G8, G10: the sample is consumed by the faulting poll. -/
theorem test_gpoll_faults :
    seen (fun s => (faultView s, s.env.samples)) (exec .gpoll (touching tcGrid 0 (.point 320 0))) =
      some ((true, 0x05, 0, 0x3100, 0), []) ∧
    seen faultView (exec .gpoll (touching tcGrid 2 (.point 320 0))) = some (true, 0x05, 0, 0x3100, 0) :=
  ⟨by decide, by decide⟩
/-- V1, V3, V4, V5, V9. -/
theorem test_epoll_events :
    [Event.buttonDown true 200 400, .buttonDown false 200 400, .keyDown 0x0041, .keyDown 0, .notReady].map
        (fun e => seen (fun s => (s.codeValid, s.code.toNat)) (exec .epoll (typing tc3 e))) =
      [some (true, 8), some (false, 0), some (true, 0x41), some (true, 0), some (false, 0)] := by decide
/-- V10, and EPOLL with P_SOURCE = COORD. -/
theorem test_epoll_faults :
    seen faultView (exec .epoll (typing tc3 (.buttonDown true 320 0))) = some (true, 0x05, 0, 0x3200, 0) ∧
    seen faultView (exec .epoll (typing tc1 .none)) = some (true, 0x06, 0, 0x3200, 0) := by decide

/-! ### The step, reset and the host's registers -/

/-- E9: the reserved immediate goes before the absent source (R194). -/
theorem test_step_priority : seen faultView (step (fed tc3 [0x3001])) = some (true, 0x01, 0, 0x3001, 0) := by decide
/-- E7: the words after an illegal header are not consumed. -/
theorem test_step_illegal_rest : seen (·.port) (step (fed tc1 [0x1280, 1, 2])) = some [1, 2] := by decide
/-- E10: a header alone is collected, CIDX stays, and then the engine holds. -/
theorem test_step_collects :
    seen (fun s => (s.asm, s.port, s.cidx)) (step (fed tc1 [0x1000])) = some ([0x1000], [], 0) ∧
    after (step { State.resetOf tc1 with asm := [0x1000] }) = none := by decide
/-- X1, O26. -/
theorem test_host_reads :
    hostRead 0 0x00 (State.resetOf tc1) = 0 ∧ hostRead 0 0x05 (State.resetOf tc1) = 0xFFFFFFFF ∧
    hostRead 0 0x07 (State.resetOf tc1) = 239 ∧ hostRead 0 0x08 (State.resetOf tc1) = 319 ∧
    hostRead 0 0x06 (State.resetOf tc3) = 7 := by decide
/-- X2. -/
theorem test_host_reset :
    hostReset { (fed tc1 [1, 2]).raiseFault .cellRange 3 with asm := [4], xerr := true } = State.resetOf tc1 := by decide
theorem test_link_bytes : linkWords [0x12, 0x34, 0xAB, 0xCD] = [0x1234, 0xABCD] := by decide

/-! ### Witnesses: for every statement with hypotheses, a concrete state and operands that meet them, each clause at a
boundary of its range -/

theorem witness_DecodedWordsAreTheEncoding : decode [0x21FF, 7] = .command (.setTmask 0xFF) [7] := by decide
theorem witness_StepRunsTheDecodedCommand :
    (fed tc1 [0x1000, 0x00FF, 5]).faulted = false ∧
    decode ((fed tc1 [0x1000, 0x00FF, 5]).asm ++ (fed tc1 [0x1000, 0x00FF, 5]).port) = .command (.setOrient 255) [5] := by decide
theorem witness_TableRowRunsAsNextStep :
    State.reset.faulted = false ∧ decodeTableWord 16 0x21FF = some (.setTmask 0xFF) := by decide
theorem witness_HaltedEngineHasNoStep : ((fed tc1 [0x1100]).raiseFault .illegalCmd 0).faulted = true := by decide
theorem witness_IncompleteCommandHolds :
    ((State.resetOf tc1).faulted = false ∧
      decode ((State.resetOf tc1).asm ++ (State.resetOf tc1).port) = .incomplete ∧ (State.resetOf tc1).port = []) ∧
    ((fed tc1 [0x1200, 1, 2, 3, 4, 5]).faulted = false ∧
      decode ((fed tc1 [0x1200, 1, 2, 3, 4, 5]).asm ++ (fed tc1 [0x1200, 1, 2, 3, 4, 5]).port) = .incomplete ∧
      (fed tc1 [0x1200, 1, 2, 3, 4, 5]).port ≠ []) := by decide
theorem witness_MissingWordsLiftTheHold :
    (fed tc1 [0x1200, 1, 2, 3, 4, 5]).faulted = false ∧
    (fed tc1 [0x1200, 1, 2, 3, 4, 5]).asm ++ (fed tc1 [0x1200, 1, 2, 3, 4, 5]).port = [0x1200, 1, 2, 3, 4, 5] ∧
    encode (.blit 1 2 3 4 0x00050006) = [0x1200, 1, 2, 3, 4, 5] ++ [6] ∧ ([6] : List Word) ≠ [] := by decide
theorem witness_MissingWordsLiftTheHold_none :
    (State.resetOf tc1).asm ++ (State.resetOf tc1).port = [] ∧ encode .init = [] ++ [0x1100] := by decide
theorem witness_UnassignedOpcodeFaultsAtTheHeader :
    (fed tc1 [0x0000, 1]).faulted = false ∧ (fed tc1 [0x0000, 1]).asm ++ (fed tc1 [0x0000, 1]).port = 0x0000 :: [1] ∧
    (([0x0000, 0x0FFF] : List Word).all fun h => decide (h.toNat / 256 ≤ 0x0F)) = true ∧
    (([0x1300, 0x1FFF] : List Word).all fun h => decide (0x13 ≤ h.toNat / 256 ∧ h.toNat / 256 ≤ 0x1F)) = true ∧
    (([0x2300, 0x2FFF] : List Word).all fun h => decide (0x23 ≤ h.toNat / 256 ∧ h.toNat / 256 ≤ 0x2F)) = true ∧
    (([0x3300, 0xFFFF] : List Word).all fun h => decide (0x33 ≤ h.toNat / 256)) = true :=
  ⟨by decide, by decide, by decide, by decide, by decide, by decide⟩
theorem witness_ReservedImmediateFaultsAtTheHeader :
    (fed tc1 [0x1001]).faulted = false ∧ (fed tc1 [0x1001]).asm ++ (fed tc1 [0x1001]).port = 0x1001 :: [] ∧
    (0x1001 : Word).toNat / 256 ∈ [0x10, 0x11, 0x12, 0x20, 0x22, 0x30, 0x31, 0x32] ∧ (0x1001 : Word).toNat % 256 ≠ 0 ∧
    (0x32FF : Word).toNat / 256 ∈ [0x10, 0x11, 0x12, 0x20, 0x22, 0x30, 0x31, 0x32] ∧ (0x32FF : Word).toNat % 256 ≠ 0 :=
  ⟨by decide, by decide, by decide, by decide, by decide, by decide⟩
theorem witness_OrientPatternFormula :
    ((-4 : Int) ≤ -4 ∧ (-4 : Int) ≤ -1 ∧ tc1.params.ot[((-(-4 : Int)) - 1).toNat]? = some 0xE0) ∧
    ((-4 : Int) ≤ -1 ∧ tc1.params.ot[((-(-1 : Int)) - 1).toNat]? = some 0x40) ∧ ((0 : Int) ≤ 255 ∧ (255 : Int) ≤ 255) := by decide
theorem witness_OrientationTableIndex : tc2.params.cbo = false ∧ (-4 : Int) ≤ -4 ∧ (0 : Int) ≤ (- -4) - 1 := by decide
theorem witness_RawPatternOnlyGainsTheColourBit : 255 ≤ 255 ∧ 7 < 8 ∧ 3 < 8 := by decide
theorem witness_SetOrientSetsOrFaults :
    (0xFFFB : Word).toInt < -4 ∧ 255 < (0x0100 : Word).toInt ∧
    (-4 ≤ (0xFFFC : Word).toInt ∧ (0xFFFC : Word).toInt ≤ 255 ∧ (answering tc1 []).init = false) ∧
    (-4 ≤ (0x00FF : Word).toInt ∧ (0x00FF : Word).toInt ≤ 255 ∧ (initialised tc1 []).init = true) := by decide
theorem witness_DeferredOrientationReachesThePanelAtInit :
    (State.resetOf tc1).init = false ∧ -4 ≤ (0xFFFC : Word).toInt ∧ (0xFFFC : Word).toInt ≤ 255 ∧
    (-4 ≤ (0x00FF : Word).toInt ∧ (0x00FF : Word).toInt ≤ 255) ∧ (0xFFFB : Word).toInt < -4 ∧ 255 < (0x0100 : Word).toInt := by decide
theorem witness_FailedOrientationWriteStands :
    (initialised tc1 [.fail]).env.nextAnswer = .fail ∧ (initialised tc1 [.fail]).init = true ∧
    -4 ≤ (0xFFFC : Word).toInt ∧ (0xFFFC : Word).toInt ≤ 255 := by decide
theorem witness_OrientationAndMaskAreNeverSynchronised :
    (after (exec .init (initialised tc1 [.ok]))).isSome = true ∧ (∀ v, Instr.init ≠ .setOrient v) ∧
    (∀ d, Instr.init ≠ .setTrot d) ∧ (∀ m, Instr.init ≠ .setTmask m) :=
  ⟨by decide, nofun, nofun, nofun⟩
/-- A4 and A6: x1 = x2 = 65535, y1 = y2 = 65535; then each clause's answers. -/
theorem witness_BlitOffersItsWindow :
    ((65535 : Int) = ((0xFFFF : Word).toNat : Int) + (answering tc1 [.fail]).cfg.params.offX ∧
     (65535 : Int) = 65535 + ((1 : Word).toNat : Int) - 1 ∧
     (65535 : Int) = ((0xFFAF : Word).toNat : Int) + (answering tc1 [.fail]).cfg.params.offY) ∧
    (answering tc1 [.fail]).env.nextAnswer = .fail ∧
    ((answering tc1 [.ok, .fail]).env.nextAnswer = .ok ∧ ((answering tc1 [.ok, .fail]).env.answered 1).nextAnswer = .fail) ∧
    ((answering tc1 [.ok, .ok]).env.nextAnswer = .ok ∧ ((answering tc1 [.ok, .ok]).env.answered 1).nextAnswer = .ok) := by decide
/-- A5, A7, A8: x2 = 65536; y1 = 65536; x2 = -1. -/
theorem witness_IllegalWindowFaults :
    (∃ a ∈ ([65535, 65536, 80, 80] : List Int), a < 0 ∨ 65535 < a) ∧
    (65536 : Int) = 65535 + ((2 : Word).toNat : Int) - 1 ∧
    (65536 : Int) = ((0xFFB0 : Word).toNat : Int) + (State.resetOf tc1).cfg.params.offY ∧
    (-1 : Int) = 0 + ((0 : Word).toNat : Int) - 1 := by decide
theorem witness_AddressParametersAreBigEndian : 65535 ≤ 65535 ∧ 0 ≤ 65535 := by decide
theorem witness_EmptyRectanglesAreOfferedLiterally :
    (0 = (0 : Word).toNat + (State.resetOf tc2).cfg.params.offX ∧ 0 = (0 : Word).toNat + (State.resetOf tc2).cfg.params.offY) ∧
    (65535 = (0xFFFF : Word).toNat + (answering tc2 [.ok]).cfg.params.offX ∧
     1 = (1 : Word).toNat + (answering tc2 [.ok]).cfg.params.offY ∧ 1 ≤ (1 : Word).toNat ∧
     65535 + (1 : Word).toNat ≤ 65536 ∧ (answering tc2 [.ok]).env.nextAnswer = .ok) := by decide
theorem witness_NormalizedPointsFitPT : (touching tc1 7 (.point 65535 0)).Invariant := by decide
theorem witness_AcquireTakesTheFirstPoint :
    (touching tc1 0 (.list [])).env.nextSample ∈ [Sample.none, .notReady, .list []] ∧
    (touching tc1 0 (.point 65535 0)).env.nextSample = .point 65535 0 ∧
    (touching tc1 0 (.list [(0, 65535)])).env.nextSample = .list ((0, 65535) :: []) := by decide
/-- Of TPOLL and ZPOLL: the absent source, no touch, and the touch of T37. -/
theorem witness_TpollReportsThePoint :
    (typing tc3 .none).cfg.params.source = .event ∧
    ((touching tc1 7 .none).cfg.params.source = .coord ∧ (touching tc1 7 .none).acquired = none) ∧
    ((touching tc1 7 (.point 65535 65535)).cfg.params.source = .coord ∧
      (touching tc1 7 (.point 65535 65535)).acquired = some (-65296, -65216)) := by decide
theorem witness_ZpollReportsTheZone :
    (typing tc3 .none).cfg.params.source = .event ∧
    ((touching tc2 0 .notReady).cfg.params.source = .coord ∧ (touching tc2 0 .notReady).acquired = none) ∧
    ((touching tc2 0 (.point 100 200)).cfg.params.source = .coord ∧
      (touching tc2 0 (.point 100 200)).acquired = some (100, 200)) := by decide
/-- Degrees -32768 and -32408; a state under each of the three masks. -/
theorem witness_TouchRotationProperties :
    (0x8168 : Word).toInt = (0x8000 : Word).toInt + 360 ∧
    (after (exec (.setTrot 0x8168) (State.resetOf tc1))).isSome = true ∧
    (after (exec (.setTrot 0x8000) (State.resetOf tc1))).isSome = true ∧
    (touching tc1 0 .none).tmask = 0b000 ∧ (touching tc1 2 .none).tmask = 0b010 ∧ (touching tc1 4 .none).tmask = 0b100 := by decide
theorem witness_BandIsExactAndTotal : 1 ≤ 1 ∧ (-1 : Int) < 0 ∧ ((1 : Nat) : Int) ≤ 1 := by decide
/-- The marks of a size of 300: 99 and 100, 200 and 201. -/
theorem witness_ZoneCodesFormTheKeypad :
    (0 = if 3 * (99 : Int) < tc2.params.width then 0 else if 2 * (tc2.params.width : Int) < 3 * 99 then 2 else 1) ∧
    (1 = if 3 * (200 : Int) < tc2.params.height then 0 else if 2 * (tc2.params.height : Int) < 3 * 200 then 2 else 1) ∧
    (2 = if 3 * (201 : Int) < tc2.params.height then 0 else if 2 * (tc2.params.height : Int) < 3 * 201 then 2 else 1) := by decide
/-- The last cell, without a key table and with one. -/
theorem witness_GridCodeOfACell :
    ((0 : Int) ≤ 319 ∧ (319 : Int) < tcGrid.params.width ∧ (0 : Int) ≤ 479 ∧ (479 : Int) < tcGrid.params.height ∧
      (8 : Int) = Int.fdiv (479 * tcGrid.params.rows) tcGrid.params.height * tcGrid.params.cols +
        Int.fdiv (319 * tcGrid.params.cols) tcGrid.params.width ∧ tcGrid.params.keytab = none) ∧
    tcKeys.params.keytab = some [10, 11, 12, 13, 14, 15, 16, 17, 18] := by decide
/-- The absent source, no touch, the last cell, and one beyond the display. -/
theorem witness_GpollReportsTheCell :
    (typing tc3 .none).cfg.params.source = .event ∧
    ((touching tcGrid 0 .none).cfg.params.source = .coord ∧ (touching tcGrid 0 .none).acquired = none) ∧
    ((touching tcGrid 0 (.point 319 479)).acquired = some (319, 479) ∧
      ((0 : Int) ≤ 319 ∧ (319 : Int) < (touching tcGrid 0 .none).cfg.params.width) ∧
      ((0 : Int) ≤ 479 ∧ (479 : Int) < (touching tcGrid 0 .none).cfg.params.height)) ∧
    ((touching tcGrid 0 (.point 320 0)).acquired = some (320, 0) ∧
      ¬ (((0 : Int) ≤ 320 ∧ (320 : Int) < (touching tcGrid 0 .none).cfg.params.width) ∧
         ((0 : Int) ≤ 0 ∧ (0 : Int) < (touching tcGrid 0 .none).cfg.params.height))) :=
  ⟨by decide, by decide, by decide, by decide⟩
/-- The absent source, no input, a key, the last cell, and one beyond the display. -/
theorem witness_EpollReportsTheEvent :
    (typing tc1 .none).cfg.params.source = .coord ∧
    ((typing tc3 .other).cfg.params.source = .event ∧ (typing tc3 .other).env.nextEvent ∈ [Event.none, .notReady, .other] ∧
      (typing tc3 (.buttonDown false 0 0)).env.nextEvent = .buttonDown false 0 0) ∧
    (typing tc3 (.keyDown 0)).env.nextEvent = .keyDown 0 ∧
    ((typing tc3 (.buttonDown true 319 479)).env.nextEvent = .buttonDown true 319 479 ∧
      (319 : BitVec 16).toNat < (typing tc3 .none).cfg.params.width ∧
      (479 : BitVec 16).toNat < (typing tc3 .none).cfg.params.height) ∧
    ((typing tc3 (.buttonDown true 320 0)).env.nextEvent = .buttonDown true 320 0 ∧
      (typing tc3 .none).cfg.params.width ≤ (320 : BitVec 16).toNat) :=
  ⟨by decide, by decide, by decide, by decide, by decide⟩
theorem witness_OnlyPollsWriteTheResults :
    ((after (exec .init (answering tc1 [.ok]))).isSome = true ∧ Instr.init ∉ [Instr.tpoll, .zpoll, .gpoll, .epoll]) ∧
    (seen (fun s => (s.faulted, s.ptValid, s.codeValid)) (exec .zpoll (touching tc1 0 .none)) = some (false, false, false) ∧
      (touching tc1 0 .none).faulted = false) := by decide
theorem witness_ReachableStatesKeepTheInvariants : Reachable (hostWrite 0x1100 (State.resetOf tc1)) :=
  .write _ _ (.start tc1 Env.unscripted)
/-- Of the statements about a step from a good state: one that completes, one that faults, one that collects. -/
theorem witness_StepKeepsTheInvariants :
    (fed tc1 [0x2107]).Invariant ∧ (after (step (fed tc1 [0x2107]))).isSome = true ∧
    (fed tc1 [0x0000]).Invariant ∧ (after (step (fed tc1 [0x0000]))).isSome = true := by decide
theorem witness_StepKeepsTheFaultRecordSound :
    (fed tc1 [0x0000]).FaultRecordSound ∧ seen faultView (step (fed tc1 [0x0000])) = some (true, 0x01, 0, 0x0000, 0) := by decide
theorem witness_AssemblyBufferStaysIncomplete : seen (·.asm) (step (fed tc1 [0x2000])) = some [0x2000] := by decide
theorem witness_ConfigurationNeverChanges : (after (step (fed tc1 [0x2107]))).isSome = true := by decide
theorem witness_StepsOfferOnlyIssuedTransactions :
    seen (fun s => s.history.length) (step { fed tc1 [0x1200, 0, 0, 1, 1, 0, 0] with env := { Env.unscripted with answers := [.ok, .ok, .ok] } })
      = some 3 ∧
    seen (fun s => s.history) (step { fed tc1 [0x1100] with env := { Env.unscripted with answers := [.ok] } })
      = some [.wr 0x36 [0x48]] := by decide
/-- A completion at the wrap of CIDX, a fault, a collecting step. -/
theorem witness_CommandIndexAdvancesOnCompletion :
    (seen (fun s => (s.faulted, s.cidx)) (step { fed tc1 [0x2000, 90] with cidx := 0xFFFFFFFE }) = some (false, 0) ∧
      decode ((fed tc1 [0x2000, 90]).asm ++ (fed tc1 [0x2000, 90]).port) = .command (.setTrot 90) []) ∧
    seen (fun s => (s.faulted, s.cidx)) (step (fed tc1 [0x1000, 0x0100])) = some (true, 0) ∧
    (seen (fun s => (s.faulted, s.cidx)) (step (fed tc1 [0x2000])) = some (false, 0) ∧
      decode ((fed tc1 [0x2000]).asm ++ (fed tc1 [0x2000]).port) = .incomplete) :=
  ⟨by decide, by decide, by decide⟩
theorem witness_InitIsSetOnlyByInit : seen (·.init) (exec .init (answering tc1 [.ok])) = some true := by decide
theorem witness_XerrReportsTheTransportFailure :
    ((answering tc1 []).faulted = false ∧ seen (·.faulted) (exec (.setOrient 0x0100) (answering tc1 [])) = some true) ∧
    seen (fun s => (s.faulted, s.xerr)) (exec .init (answering tc1 [.fail])) = some (false, true) := by decide
theorem witness_FaultEntryIsPrecise :
    seen faultView (step { fed tcGrid [0x3100] with env := { Env.unscripted with samples := [.point 320 0] } }) =
      some (true, 0x05, 0, 0x3100, 0) ∧
    seen faultView (step (fed tc1 [0x3200])) = some (true, 0x06, 0, 0x3200, 0) ∧
    seen faultView (step (fed tc1 [0x0000, 0x1100])) = some (true, 0x01, 0, 0x0000, 0) :=
  ⟨by decide, by decide, by decide⟩
/-- A faulting command's own words leave the port and no later one does (log 14); an illegal header leaves alone
(R76). -/
theorem test_fault_leaves_later_words :
    seen (·.port) (step (fed tc1 [0x1000, 0x0100, 0x1100, 0x2200])) = some [0x1100, 0x2200] ∧
    seen (·.port) (step (fed tc1 [0x1001, 0x0100, 0x1100])) = some [0x0100, 0x1100] := by decide
theorem witness_ResetValues : (State.reset = State.reset ∧ openInstantiation = State.reset.cfg) ∧
    State.resetOf tc1 = State.resetOf tc1 := ⟨⟨rfl, rfl⟩, rfl⟩
theorem witness_UnmappedReadsAreFree : 0x0C ≤ (0x0C : BitVec 8).toNat ∧ 0x0C ≤ (0xFF : BitVec 8).toNat := by decide
/-- Both sides of the ranges of R8, at the ends of one range after another. -/
theorem witness_IllegalConfigurationIsRefused :
    [{ paramsTC1 with width := 65535 }, { paramsTC1 with height := 1 }, { paramsTC1 with offX := 65535 },
      { paramsTC1 with offY := 65535 }, { paramsTC1 with bpp := 248 }, { paramsTC1 with orientReset := -4 },
      { paramsTC1 with orientReset := 255 },
      { paramsTC1 with rows := 1, cols := 1, keytab := some [7] }].map instanceOf = List.replicate 8 true ∧
    [{ paramsTC1 with width := 0 }, { paramsTC1 with height := 65536 }, { paramsTC1 with offX := 65536 },
      { paramsTC1 with offY := 65536 }, { paramsTC1 with bpp := 0 }, { paramsTC1 with bpp := 12 },
      { paramsTC1 with bpp := 256 }, { paramsTC1 with orientReset := -5 }, { paramsTC1 with orientReset := 256 },
      { paramsTC1 with rows := 0 }, { paramsTC1 with cols := 256 },
      { paramsTC1 with rows := 1, cols := 1, keytab := some [] }].map instanceOf = List.replicate 12 false := by
  decide
/-- A line at each end outside a range, and one at the ends inside. -/
theorem witness_AssembledOperandsReadBack :
    [AsmLine.setOrient (-32769), .setOrient 32768, .setTrot (-32769), .setTrot 32768, .setTmask (-1), .setTmask 256,
      .blit (-1) 0 0 0 0, .blit 0 65536 0 0 0, .blit 0 0 (-1) 0 0, .blit 0 0 0 65536 0, .blit 0 0 0 0 (-1),
      .blit 0 0 0 0 0x100000000].map assemble = List.replicate 12 none ∧
    [AsmLine.setOrient (-32768), .setTrot 32767, .setTmask 255, .blit 65535 0 65535 0 0xFFFFFFFF].map assemble =
      [some (.setOrient 0x8000), some (.setTrot 0x7FFF), some (.setTmask 0xFF),
        some (.blit 0xFFFF 0 0xFFFF 0 0xFFFFFFFF)] := by decide
theorem witness_HostRegisterMap : (0x0B : BitVec 8).toNat ≤ 0x0B ∧
    hostRead 0 0x00 (hostWrite 0x1100 (State.resetOf tc1)) = 0 := by decide

end Sys2Proof.Tests
end

/-! PROOFS. The configuration parameters (00_scope.md R8): they never change, and instantiation succeeds exactly
within their ranges. -/

namespace Sys2Proof.Proofs

open Sys2Proof.Machine Sys2Proof.Config

/-! ### The parameters are fixed -/

/-- Each of the four things a command can do leaves the parameters. -/
theorem exec_next_cfg (i : Instr) (s t : State) (h : exec i s = .next t) : t.cfg = s.cfg := by
  rcases exec_next_cases i s t h with hfault | htransact | hmask | hpoll
  · obtain ⟨c, e, rfl, _⟩ := hfault
    simp
  · obtain ⟨v, ts, _, _, _, _, rfl⟩ | ⟨_, rfl⟩ | ⟨x, y, w, hh, buf, _, _, rfl⟩ := htransact <;> simp
  · obtain ⟨d, _, rfl⟩ | ⟨m, _, rfl⟩ := hmask <;> simp
  · obtain ⟨e, point, code, rfl, _⟩ := hpoll
    simp

/-- A step leaves the parameters, whether it runs a command, faults on an illegal header or collects words. -/
theorem step_next_cfg (s t : State) (h : step s = .next t) : t.cfg = s.cfg := by
  obtain ⟨_, ⟨i, rest, _, hexec⟩ | ⟨why, hd, rest, _, rfl⟩ | ⟨_, _, rfl⟩⟩ := step_next_cases s t h
  · rw [exec_next_cfg i _ t hexec, State.consumed_cfg]
  · simp
  · simp

/-- Settles O48: the step, the host's write and the reset input each have a frame that includes the parameters. -/
theorem configurationNeverChanges : Obligations.ConfigurationNeverChanges := fun s t w =>
  ⟨step_next_cfg s t, by rw [hostWrite_eq, hostWriteAll_cfg], hostReset_cfg s⟩

/-! ### The reset values read as integers -/

/-- P_ORIENT_RESET fits ORIENT's 16 bits, so ORIENT's reset value is exact (10_state.md R36). -/
theorem resetOf_orient_toInt (c : Instantiation) : (State.resetOf c).orient.toInt = c.params.orientReset := by
  obtain ⟨_, _, _, _, ⟨hlow, hhigh⟩, _⟩ := c.ranges
  rw [State.resetOf_orient]
  exact BitVec.toInt_ofInt_eq_self (by decide) (by omega) (by omega)

/-- P_WIDTH - 1 fits MAXX's 32 bits (R36, 42_touch.md R141). -/
theorem maxXOf_toInt (c : Instantiation) : (maxXOf c).toInt = (c.params.width : Int) - 1 := by
  obtain ⟨⟨hlow, hhigh⟩, _⟩ := c.ranges
  exact BitVec.toInt_ofInt_eq_self (by decide) (by omega) (by omega)

/-- P_HEIGHT - 1 fits MAXY's 32 bits (R36, R141). -/
theorem maxYOf_toInt (c : Instantiation) : (maxYOf c).toInt = (c.params.height : Int) - 1 := by
  obtain ⟨_, ⟨hlow, hhigh⟩, _⟩ := c.ranges
  exact BitVec.toInt_ofInt_eq_self (by decide) (by omega) (by omega)

/-! ### Instantiation within the ranges -/

/-- The ranges of R8's table. P_BPP is a positive byte multiple below 256; P_ORIENT_RESET is a table index or a raw
value (40_orientation.md R100). -/
def InRanges (p : Params) : Prop :=
  (1 ≤ p.width ∧ p.width ≤ 65535) ∧ (1 ≤ p.height ∧ p.height ≤ 65535) ∧ p.offX ≤ 65535 ∧ p.offY ≤ 65535 ∧
  (0 < p.bpp ∧ p.bpp < 256 ∧ p.bpp % 8 = 0) ∧ LegalOrientation p.orientReset ∧
  (1 ≤ p.rows ∧ p.rows ≤ 255) ∧ (1 ≤ p.cols ∧ p.cols ≤ 255) ∧
  (∀ codes ∈ p.keytab, p.rows * p.cols ≤ codes.length)

/-- The model's legality check is membership in R8's ranges, the key table's row split on whether there is one. -/
theorem legal_iff_inRanges (p : Params) : p.legal = true ↔ InRanges p := by
  have hbpp : (p.bpp % 8 = 0 ∧ 8 ≤ p.bpp ∧ p.bpp ≤ 248) ↔ (0 < p.bpp ∧ p.bpp < 256 ∧ p.bpp % 8 = 0) := by omega
  have horient : (-4 ≤ p.orientReset ∧ p.orientReset ≤ 255) ↔ LegalOrientation p.orientReset := by
    unfold LegalOrientation; omega
  unfold Params.legal InRanges
  cases p.keytab with
  | none => simp [hbpp, horient, and_assoc]
  | some codes => simp [hbpp, horient, and_assoc]

theorem instantiate_of_legal (p : Params) (h : p.legal = true) :
    instantiate p = .ok (State.resetOf ⟨p, h⟩) := dif_pos h

theorem instantiate_of_not_legal (p : Params) (h : ¬ p.legal = true) :
    instantiate p = .error .illegalConfiguration := dif_neg h

/-- Settles O58: `instantiate` tests exactly R8's ranges, and the state it answers is at its reset values. -/
theorem illegalConfigurationIsRefused : Obligations.IllegalConfigurationIsRefused := by
  intro p
  split
  · next hranges =>
    have hlegal : p.legal = true := (legal_iff_inRanges p).mpr hranges
    exact ⟨_, instantiate_of_legal p hlegal, rfl, rfl, rfl, rfl, rfl, rfl, rfl, resetOf_orient_toInt _, rfl,
      maxXOf_toInt _, maxYOf_toInt _, rfl, rfl, rfl, rfl, rfl, rfl, rfl⟩
  · next hranges =>
    exact instantiate_of_not_legal p fun hlegal => hranges ((legal_iff_inRanges p).mp hlegal)

end Sys2Proof.Proofs

/-! PROOFS. The state (10_state.md): the invariants of R33, which command writes which element, the assembly buffer,
the reset values and the host's registers. -/

namespace Sys2Proof.Proofs

open Sys2Proof.Machine Sys2Proof.Config

/-! ### Completing and faulting -/

/-- What every completed command does, whichever it is: FAULTED stays (R24), CIDX moves past the command's words
(R22), only INIT sets INIT (R25), and the assembly buffer stays. -/
structure Completes (i : Instr) (s t : State) : Prop where
  faulted : t.faulted = s.faulted
  cidx : t.cidx = s.cidx + BitVec.ofNat 32 (encode i).length
  init : t.init = (s.init || decide (i = .init))
  asm : t.asm = s.asm

theorem completes_of_transactsAs (i : Instr) (s t : State) (h : TransactsAs i s t) : Completes i s t := by
  obtain ⟨v, ts, rfl, _, _, _, rfl⟩ | ⟨rfl, rfl⟩ | ⟨x, y, w, hh, buf, rfl, _, rfl⟩ := h <;>
    constructor <;> simp [encode, Instr.operands]

theorem completes_of_setsMaskAs (i : Instr) (s t : State) (h : SetsMaskAs i s t) : Completes i s t := by
  obtain ⟨d, rfl, rfl⟩ | ⟨m, rfl, rfl⟩ := h <;> constructor <;> simp [encode, Instr.operands]

theorem completes_of_pollsAs (i : Instr) (s t : State) (h : PollsAs i s t) : Completes i s t := by
  obtain ⟨e, point, code, rfl, ⟨rfl | rfl | rfl, _⟩ | ⟨rfl, _⟩⟩ := h <;>
    constructor <;> simp [encode, Instr.operands]

theorem exec_next_faultsAs_or_completes (i : Instr) (s t : State) (h : exec i s = .next t) :
    FaultsAs i s t ∨ Completes i s t := by
  rcases exec_next_cases i s t h with hfault | htransact | hmask | hpoll
  · exact .inl hfault
  · exact .inr (completes_of_transactsAs i s t htransact)
  · exact .inr (completes_of_setsMaskAs i s t hmask)
  · exact .inr (completes_of_pollsAs i s t hpoll)

/-- A command that faults sets FAULTED (60_exceptions.md R191). -/
theorem faultsAs_faulted (i : Instr) (s t : State) (h : FaultsAs i s t) : t.faulted = true := by
  obtain ⟨c, e, rfl, _⟩ := h
  rfl

/-- With FAULTED = 0 before it, FAULTED after a command tells whether it faulted. -/
theorem faultsAs_of_faulted (i : Instr) (s t : State) (hs : s.faulted = false) (h : exec i s = .next t)
    (ht : t.faulted = true) : FaultsAs i s t := by
  rcases exec_next_faultsAs_or_completes i s t h with hfault | hdone
  · exact hfault
  · rw [hdone.faulted, hs] at ht
    cases ht

theorem completes_of_not_faulted (i : Instr) (s t : State) (h : exec i s = .next t) (ht : t.faulted = false) :
    Completes i s t := by
  rcases exec_next_faultsAs_or_completes i s t h with hfault | hdone
  · rw [faultsAs_faulted i s t hfault] at ht
    cases ht
  · exact hdone

/-! ### The result groups PT and CODE (R29, R30) -/

theorem setPoint_zero_of_invalid (s : State) (point : Option (Int × Int)) :
    (s.setPoint point).ptValid = false → (s.setPoint point).ptX = 0 ∧ (s.setPoint point).ptY = 0 := by
  cases point with
  | none => exact fun _ => ⟨rfl, rfl⟩
  | some pt => exact nofun

theorem setCode_zero_of_invalid (s : State) (code : Option (BitVec 16)) :
    (s.setCode code).codeValid = false → (s.setCode code).code = 0 := by
  cases code with
  | none => exact fun _ => rfl
  | some c => exact nofun

/-- A poll that completes writes both groups, so an invalid one is zero whatever it held before. -/
theorem pollsAs_invalid_zero (i : Instr) (s t : State) (h : PollsAs i s t) :
    (t.ptValid = false → t.ptX = 0 ∧ t.ptY = 0) ∧ (t.codeValid = false → t.code = 0) := by
  obtain ⟨e, point, code, rfl, _⟩ := h
  constructor
  · simpa using setPoint_zero_of_invalid { s with env := e } point
  · simpa using setCode_zero_of_invalid ({ s with env := e }.setPoint point) code

/-- The four commands that read the input port. -/
theorem pollsAs_isPoll (i : Instr) (s t : State) (h : PollsAs i s t) : i ∈ [.tpoll, .zpoll, .gpoll, .epoll] := by
  obtain ⟨_, _, _, _, ⟨rfl | rfl | rfl, _⟩ | ⟨rfl, _⟩⟩ := h <;> decide

theorem transactsAs_not_isPoll (i : Instr) (s t : State) (h : TransactsAs i s t) :
    i ∉ [.tpoll, .zpoll, .gpoll, .epoll] := by
  obtain ⟨v, _, rfl, _⟩ | ⟨rfl, _⟩ | ⟨x, y, w, hh, buf, rfl, _⟩ := h <;> simp

theorem setsMaskAs_not_isPoll (i : Instr) (s t : State) (h : SetsMaskAs i s t) :
    i ∉ [.tpoll, .zpoll, .gpoll, .epoll] := by
  obtain ⟨d, rfl, _⟩ | ⟨m, rfl, _⟩ := h <;> simp

/-- A command that is no poll leaves both groups: none of the other three things a command can do writes them. -/
theorem exec_next_results_of_not_poll (i : Instr) (s t : State) (h : exec i s = .next t)
    (hi : i ∉ [.tpoll, .zpoll, .gpoll, .epoll]) :
    t.ptValid = s.ptValid ∧ t.ptX = s.ptX ∧ t.ptY = s.ptY ∧ t.codeValid = s.codeValid ∧ t.code = s.code := by
  rcases exec_next_cases i s t h with hfault | htransact | hmask | hpoll
  · obtain ⟨c, e, rfl, _⟩ := hfault
    simp
  · obtain ⟨v, ts, _, _, _, _, rfl⟩ | ⟨_, rfl⟩ | ⟨x, y, w, hh, buf, _, _, rfl⟩ := htransact <;> simp
  · obtain ⟨d, _, rfl⟩ | ⟨m, _, rfl⟩ := hmask <;> simp
  · exact absurd (pollsAs_isPoll i s t hpoll) hi

/-- A poll does nothing but fault or report. -/
theorem exec_next_pollsAs_of_poll (i : Instr) (s t : State) (h : exec i s = .next t)
    (hi : i ∈ [.tpoll, .zpoll, .gpoll, .epoll]) (ht : t.faulted = false) : PollsAs i s t := by
  rcases exec_next_cases i s t h with hfault | htransact | hmask | hpoll
  · rw [faultsAs_faulted i s t hfault] at ht
    cases ht
  · exact absurd hi (transactsAs_not_isPoll i s t htransact)
  · exact absurd hi (setsMaskAs_not_isPoll i s t hmask)
  · exact hpoll

/-- Settles O42: the frame of the commands that are no polls, and the groups a completed poll writes. -/
theorem onlyPollsWriteTheResults : Obligations.OnlyPollsWriteTheResults := fun i s t h =>
  ⟨exec_next_results_of_not_poll i s t h,
   fun hi _ ht => pollsAs_invalid_zero i s t (exec_next_pollsAs_of_poll i s t h hi ht)⟩

/-! ### The invariants of R33 -/

theorem resetOf_invariant (c : Instantiation) : (State.resetOf c).Invariant := by
  obtain ⟨_, _, _, _, ⟨hlow, hhigh⟩, _⟩ := c.ranges
  refine ⟨?_, maxXOf_toInt c, maxYOf_toInt c, fun _ => ⟨rfl, rfl⟩, fun _ => rfl, fun _ => ⟨rfl, rfl, rfl⟩⟩
  rw [resetOf_orient_toInt]
  unfold LegalOrientation
  omega

/-- Fault entry writes the fault record only, and FAULTED = 1 lifts its clause (R24, R191). -/
theorem raiseFault_invariant (s : State) (c : FaultCause) (h : Word) (hs : s.Invariant) :
    (s.raiseFault c h).Invariant := by
  obtain ⟨horient, hmaxx, hmaxy, hpt, hcode, _⟩ := hs
  exact ⟨horient, hmaxx, hmaxy, hpt, hcode, nofun⟩

/-- Transactions and CIDX's advance touch no element that R33 speaks of. -/
theorem transact_advance_invariant (s : State) (ts : List Tx) (k : Nat) (hs : s.Invariant) :
    ((s.transact ts).advance k).Invariant := by
  simpa [State.Invariant] using hs

/-- `SetMask` recomputes MAXX and MAXY from the parameters (42_touch.md R141). -/
theorem setMask_finish_invariant (s : State) (m : BitVec 3) (k : Nat) (hs : s.Invariant) :
    ((s.setMask m).finish k).Invariant := by
  obtain ⟨horient, _, _, hpt, hcode, hrecord⟩ := hs
  exact ⟨horient, maxXOf_toInt s.cfg, maxYOf_toInt s.cfg, hpt, hcode, hrecord⟩

/-- A completed poll writes the two groups and leaves the elements of the other clauses. -/
theorem pollsAs_invariant (i : Instr) (s t : State) (h : PollsAs i s t) (hs : s.Invariant) : t.Invariant := by
  obtain ⟨hpt, hcode⟩ := pollsAs_invalid_zero i s t h
  obtain ⟨horient, hmaxx, hmaxy, _, _, hrecord⟩ := hs
  obtain ⟨e, point, code, rfl, _⟩ := h
  exact ⟨by simpa using horient, by simpa using hmaxx, by simpa using hmaxy, hpt, hcode, by simpa using hrecord⟩

/-- SET_ORIENT's check is the range of ORIENT (R26, 40_orientation.md R104). -/
theorem transactsAs_invariant (i : Instr) (s t : State) (h : TransactsAs i s t) (hs : s.Invariant) :
    t.Invariant := by
  obtain ⟨v, ts, _, hlow, hhigh, _, rfl⟩ | ⟨_, rfl⟩ | ⟨x, y, w, hh, buf, _, _, rfl⟩ := h
  · obtain ⟨_, hothers⟩ := hs
    have hlegal : LegalOrientation v.toInt := by unfold LegalOrientation; omega
    exact transact_advance_invariant { s with orient := v } ts 1 ⟨hlegal, hothers⟩
  · exact transact_advance_invariant { s with init := true } _ 0 hs
  · exact transact_advance_invariant s _ 6 hs

theorem exec_next_invariant (i : Instr) (s t : State) (hs : s.Invariant) (h : exec i s = .next t) :
    t.Invariant := by
  rcases exec_next_cases i s t h with hfault | htransact | hmask | hpoll
  · obtain ⟨c, e, rfl, _⟩ := hfault
    exact raiseFault_invariant { s with env := e } c i.header hs
  · exact transactsAs_invariant i s t htransact hs
  · obtain ⟨d, _, rfl⟩ | ⟨m, _, rfl⟩ := hmask
    · exact setMask_finish_invariant s _ 1 hs
    · exact setMask_finish_invariant s _ 0 hs
  · exact pollsAs_invariant i s t hpoll hs

/-- Settles O44: assembling commands touches no element of R33, and each command keeps its clauses. -/
theorem stepKeepsTheInvariants : Obligations.StepKeepsTheInvariants := by
  intro s t hs hstep
  obtain ⟨_, ⟨i, rest, _, hexec⟩ | ⟨why, hd, rest, _, rfl⟩ | ⟨_, _, rfl⟩⟩ := step_next_cases s t hstep
  · exact exec_next_invariant i (s.consumed rest) t hs hexec
  · exact raiseFault_invariant (s.consumed rest) .illegalCmd hd hs
  · exact hs

/-- Settles O45: the reset values of R36 meet R33, State.reset's among them. -/
theorem resetMeetsTheInvariants : Obligations.ResetMeetsTheInvariants :=
  ⟨resetOf_invariant openInstantiation, resetOf_invariant⟩

/-- Settles O43, by induction on the run: the reset values meet R33 and the steps keep it; the host's writes and the
environment touch no element of it. -/
theorem reachableStatesKeepTheInvariants : Obligations.ReachableStatesKeepTheInvariants := by
  intro s hreach
  induction hreach with
  | start c e => exact resetOf_invariant c
  | write s w _ ih => exact ih
  | step s t _ hstep ih => exact stepKeepsTheInvariants s t ih hstep
  | reset s _ _ => exact resetOf_invariant s.cfg

/-! ### The assembly buffer (R32) -/

/-- No command's meaning reads or writes the assembly buffer. -/
theorem exec_next_asm (i : Instr) (s t : State) (h : exec i s = .next t) : t.asm = s.asm := by
  rcases exec_next_faultsAs_or_completes i s t h with hfault | hdone
  · obtain ⟨c, e, rfl, _⟩ := hfault
    rfl
  · exact hdone.asm

/-- Settles O47: a command and an illegal header leave the buffer empty, and only words that decode to incomplete are
collected into it. -/
theorem assemblyBufferStaysIncomplete : Obligations.AssemblyBufferStaysIncomplete := by
  intro s t hstep
  obtain ⟨_, ⟨i, rest, _, hexec⟩ | ⟨why, hd, rest, _, rfl⟩ | ⟨hdecode, _, rfl⟩⟩ := step_next_cases s t hstep
  · have hempty : t.asm = [] := exec_next_asm i (s.consumed rest) t hexec
    rw [hempty]
    rfl
  · rfl
  · exact hdecode

/-! ### CIDX (R22) -/

/-- Settles O50: CIDX moves where a command completes, and neither fault entry nor collecting words moves it. -/
theorem commandIndexAdvancesOnCompletion : Obligations.CommandIndexAdvancesOnCompletion := by
  intro s t hstep
  obtain ⟨hs, ⟨i, rest, hdecode, hexec⟩ | ⟨why, hd, rest, hdecode, rfl⟩ | ⟨hdecode, _, rfl⟩⟩ :=
    step_next_cases s t hstep
  · change decode (s.asm ++ s.port) = _ at hdecode
    refine ⟨?_, ?_, fun hincomplete => (nomatch hdecode.symm.trans hincomplete)⟩
    · intro j more hj ht
      rw [hdecode] at hj
      cases hj
      rw [(completes_of_not_faulted i (s.consumed rest) t hexec ht).cidx, BitVec.toNat_add, BitVec.toNat_ofNat,
        Nat.add_mod_mod]
      rfl
    · intro ht
      obtain ⟨c, e, rfl, _⟩ := faultsAs_of_faulted i (s.consumed rest) t hs hexec ht
      rfl
  · exact ⟨fun _ _ _ ht => (nomatch ht), fun _ => rfl, fun _ => rfl⟩
  · change decode (s.asm ++ s.port) = _ at hdecode
    exact ⟨fun i rest hi _ => (nomatch hdecode.symm.trans hi), fun _ => rfl, fun _ => rfl⟩

/-! ### INIT (R25) -/

/-- INIT has no case that faults (40_orientation.md R106). -/
theorem exec_init (s : State) :
    exec .init s =
      .next (({ s with init := true }.transact [madctlWrite s.cfg.params s.orient.toInt]).advance 0) := rfl

/-- Settles O51: the INIT command has one case, which sets INIT, and fault entry leaves INIT. -/
theorem initIsSetOnlyByInit : Obligations.InitIsSetOnlyByInit := by
  intro i s t h
  by_cases hi : i = .init
  · subst hi
    rw [exec_init] at h
    cases h
    simp
  · rcases exec_next_faultsAs_or_completes i s t h with hfault | hdone
    · obtain ⟨c, e, rfl, _⟩ := hfault
      simp [hi]
    · exact hdone.init

/-! ### XERR (R31) -/

/-- XERR of `t` reports the transport's answers to the transactions offered since `s`: it is 1 exactly when one of
them is FAIL, and only the last can be (60_exceptions.md R200). -/
def ReportsTransport (s t : State) : Prop :=
  ∃ offered, t.history = s.history ++ offered ∧
    (t.xerr = true ↔ Answer.fail ∈ s.env.answersOf offered.length) ∧
    Answer.fail ∉ s.env.answersOf (offered.length - 1)

theorem transact_reportsTransport (s : State) (ts : List Tx) : ReportsTransport s (s.transact ts) := by
  obtain ⟨k, hk, hhistory, _, hxerr, _, hlast⟩ := s.transact_spec ts
  have hlength : (ts.take k).length = k := by simpa using hk
  exact ⟨ts.take k, hhistory, by rw [hlength]; exact hxerr, by rw [hlength]; exact hlast⟩

/-- A command that offers nothing reports no failure by clearing XERR. -/
theorem reportsTransport_of_no_offer (s t : State) (hhistory : t.history = s.history) (hxerr : t.xerr = false) :
    ReportsTransport s t :=
  ⟨[], by simpa using hhistory, by simp [hxerr, Env.answersOf], by simp [Env.answersOf]⟩

theorem transactsAs_reportsTransport (i : Instr) (s t : State) (h : TransactsAs i s t) : ReportsTransport s t := by
  obtain ⟨v, ts, _, _, _, _, rfl⟩ | ⟨_, rfl⟩ | ⟨x, y, w, hh, buf, _, _, rfl⟩ := h
  · exact transact_reportsTransport { s with orient := v } ts
  · exact transact_reportsTransport { s with init := true } _
  · exact transact_reportsTransport s _

theorem exec_next_reportsTransport (i : Instr) (s t : State) (h : exec i s = .next t) (ht : t.faulted = false) :
    ReportsTransport s t := by
  rcases exec_next_cases i s t h with hfault | htransact | hmask | hpoll
  · rw [faultsAs_faulted i s t hfault] at ht
    cases ht
  · exact transactsAs_reportsTransport i s t htransact
  · obtain ⟨d, _, rfl⟩ | ⟨m, _, rfl⟩ := hmask <;> exact reportsTransport_of_no_offer s _ rfl rfl
  · obtain ⟨e, point, code, rfl, _⟩ := hpoll
    exact reportsTransport_of_no_offer s _ (by simp) (by simp)

/-- Settles O52: fault entry leaves XERR and the history, and a completed command's XERR is that of `transact`, or 0
where it offers nothing. -/
theorem xerrReportsTheTransportFailure : Obligations.XerrReportsTheTransportFailure := by
  intro i s t hs h
  refine ⟨fun ht => ?_, exec_next_reportsTransport i s t h⟩
  obtain ⟨c, e, rfl, _⟩ := faultsAs_of_faulted i s t hs h ht
  exact ⟨rfl, rfl⟩

/-! ### The reset values (R36) -/

/-- Settles O54: the record `resetOf`, with the parameter-valued elements read as integers. -/
theorem resetValues : Obligations.ResetValues := by
  intro r c h
  have hr : r = State.resetOf c := by
    obtain ⟨rfl, rfl⟩ | hr := h
    · rfl
    · exact hr
  subst hr
  exact ⟨rfl, rfl, rfl, rfl, rfl, rfl, resetOf_orient_toInt c, rfl, maxXOf_toInt c, maxYOf_toInt c,
    rfl, rfl, rfl, rfl, rfl, rfl, rfl⟩

/-! ### The host's registers (R37 to R39) -/

/-- STATUS built up from bit 31 down, one flag at a time. -/
theorem statusWord_eq_concat (s : State) :
    statusWord s =
      (((((0#27).concat s.codeValid).concat s.ptValid).concat s.xerr).concat s.init).concat s.faulted := rfl

/-- The bits of STATUS (R38): the five flags from bit 0 up, and 0 from bit 5 on. -/
theorem statusWord_getLsbD (s : State) (j : Nat) :
    (statusWord s).getLsbD j =
      ((decide (j = 0) && s.faulted) || (decide (j = 1) && s.init) || (decide (j = 2) && s.xerr) ||
       (decide (j = 3) && s.ptValid) || (decide (j = 4) && s.codeValid)) := by
  rw [statusWord_eq_concat]
  match j with
  | 0 | 1 | 2 | 3 | 4 => simp
  | k + 5 => simp

theorem hostRead_fcause (n : Nat) (s : State) : hostRead n 0x01 s = s.fcause.zeroExtend 32 := rfl
theorem hostRead_fcmd (n : Nat) (s : State) : hostRead n 0x03 s = s.fcmd.zeroExtend 32 := rfl
theorem hostRead_orient (n : Nat) (s : State) : hostRead n 0x05 s = s.orient.signExtend 32 := rfl
theorem hostRead_tmask (n : Nat) (s : State) : hostRead n 0x06 s = s.tmask.zeroExtend 32 := rfl
theorem hostRead_code (n : Nat) (s : State) : hostRead n 0x0B s = s.code.zeroExtend 32 := rfl

/-- What a register reads is a function of state elements that no host write touches (R37, R51). -/
theorem hostRead_hostWriteAll (n : Nat) (index : BitVec 8) (words : List Word) (s : State) :
    hostRead n index (hostWriteAll words s) = hostRead n index s := rfl

/-- Settles O56: the registers one by one, and the read-only clause from the frame of the host's writes. -/
theorem hostRegisterMap : Obligations.HostRegisterMap := by
  intro n s
  refine ⟨statusWord_getLsbD s, ?fcause, rfl, ?fcmd, rfl, ?orient, ?tmask, rfl, rfl, rfl, rfl, ?code, ?readOnly⟩
  case fcause => rw [hostRead_fcause, BitVec.toNat_setWidth_of_le (by decide)]
  case fcmd => rw [hostRead_fcmd, BitVec.toNat_setWidth_of_le (by decide)]
  case orient => rw [hostRead_orient, BitVec.toInt_signExtend_of_le (by decide)]
  case tmask => rw [hostRead_tmask, BitVec.toNat_setWidth_of_le (by decide)]
  case code => rw [hostRead_code, BitVec.toNat_setWidth_of_le (by decide)]
  case readOnly =>
    exact fun index w words bytes _ =>
      ⟨hostRead_hostWriteAll n index [w] s, hostRead_hostWriteAll n index words s,
        hostRead_hostWriteAll n index (linkWords bytes) s⟩

/-- Settles O57: no index from 0x0C on is one of the twelve mapped ones. -/
theorem unmappedReadsAreFree : Obligations.UnmappedReadsAreFree := by
  intro n index s hindex
  have hunmapped (mapped : BitVec 8) (hm : mapped.toNat < 0x0C) : index ≠ mapped := by
    rintro rfl
    omega
  simp (disch := decide) only [hostRead, hunmapped, if_false]

end Sys2Proof.Proofs

/-! PROOFS. The command stream and the transactions (20_memory.md): byte orders, command assembly, what a step offers
to the transport. -/

namespace Sys2Proof.Proofs

open Sys2Proof.Machine Sys2Proof.Config

/-! ### Byte orders (R56, R62) -/

/-- The two bytes of `bigEndian`, put together again. -/
theorem append_extractLsb'_bytes (v : BitVec 16) : (v.extractLsb' 8 8 ++ v.extractLsb' 0 8 : BitVec 16) = v :=
  (BitVec.extractLsb'_append_extractLsb'_eq_extractLsb' rfl).trans BitVec.extractLsb'_eq_self

/-- The link's reading of the bytes undoes writing each word high byte first. -/
theorem linkWords_flatMap_bigEndian (words : List Word) : linkWords (words.flatMap bigEndian) = words := by
  induction words with
  | nil => rfl
  | cons w more ih =>
    calc linkWords (bigEndian w ++ more.flatMap bigEndian)
        = (w.extractLsb' 8 8 ++ w.extractLsb' 0 8) :: linkWords (more.flatMap bigEndian) := rfl
      _ = w :: more := by rw [append_extractLsb'_bytes, ih]

/-- Settles O8: the words the link delivers are the words whose bytes it carried. -/
theorem linkBytesCarryTheWords : Obligations.LinkBytesCarryTheWords := fun words s =>
  congrArg (hostWriteAll · s) (linkWords_flatMap_bigEndian words)

/-- An address that fits 16 bits has its quotient and remainder by 256 as its two bytes. -/
theorem bigEndian_ofInt_toNat (a : Nat) (ha : a ≤ 65535) :
    (bigEndian (.ofInt 16 a)).map BitVec.toNat = [(a >>> 8) &&& 0xFF, a &&& 0xFF] := by
  have hmod : a % 65536 = a := Nat.mod_eq_of_lt (by omega)
  have hmask (n : Nat) : n &&& 0xFF = n % 256 := Nat.and_two_pow_sub_one_eq_mod n 8
  simp [bigEndian, BitVec.extractLsb'_toNat, hmod, hmask]

/-- Settles O26: a window's parameter list is its two addresses' bytes one after the other. -/
theorem addressParametersAreBigEndian : Obligations.AddressParametersAreBigEndian := by
  intro a b ha hb
  rw [windowBytes, List.map_append, bigEndian_ofInt_toNat a ha, bigEndian_ofInt_toNat b hb]
  rfl

/-! ### Reading a command's words (R52, R75) -/

/-- Every command's encoding has the shape of R71 to R74. -/
theorem encodedShape (i : Instr) : Laws.EncodedShape.Statement i :=
  match i with
  | .setOrient v => Laws.EncodedShape.setOrient v
  | .init => Laws.EncodedShape.init
  | .blit x y w h buf => Laws.EncodedShape.blit x y w h buf
  | .setTrot d => Laws.EncodedShape.setTrot d
  | .setTmask m => Laws.EncodedShape.setTmask m
  | .tpoll => Laws.EncodedShape.tpoll
  | .zpoll => Laws.EncodedShape.zpoll
  | .gpoll => Laws.EncodedShape.gpoll
  | .epoll => Laws.EncodedShape.epoll

/-- A command's own header passes the decoder's two checks (R76, R77), so what follows is up to the operand words. -/
theorem decode_header_cons (i : Instr) (tail : List Word) :
    decode (i.header :: tail) =
      (takeOperands i.opcode i.imm8 tail).elim .incomplete fun taken => .command taken.1 taken.2 := by
  obtain ⟨_, hopc, himm, hreserved⟩ := encodedShape i
  have hlegal : ¬ (i.opcode.format ≠ .fi ∧ i.imm8 ≠ 0) := fun ⟨hformat, hne⟩ => hne (hreserved hformat)
  simp only [decode, hopc, himm, if_neg hlegal]
  cases takeOperands i.opcode i.imm8 tail <;> rfl

/-- A handle's halves, put together high half first (R64). -/
theorem append_extractLsb'_halves (buf : Handle) :
    (buf.extractLsb' 16 16 ++ buf.extractLsb' 0 16 : BitVec 32) = buf :=
  (BitVec.extractLsb'_append_extractLsb'_eq_extractLsb' rfl).trans BitVec.extractLsb'_eq_self

/-- A command's operand words are taken as its operands, and no word after them is (R78). -/
theorem takeOperands_operands (i : Instr) (rest : List Word) :
    takeOperands i.opcode i.imm8 (i.operands ++ rest) = some (i, rest) := by
  cases i with
  | blit x y w h buf =>
    exact congrArg (fun handle => some (Instr.blit x y w h handle, rest)) (append_extractLsb'_halves buf)
  | _ => rfl

/-- With fewer words than the format's operand count, none is taken (R52, R75). -/
theorem takeOperands_short (o : Opcode) (imm : BitVec 8) (tail : List Word)
    (hshort : tail.length < o.format.operandWords) : takeOperands o imm tail = none := by
  cases o with
  | setOrient | setTrot =>
    rw [List.length_eq_zero_iff.mp (Nat.lt_one_iff.mp hshort)]
    rfl
  | blit =>
    match tail, hshort with
    | [], _ | [_], _ | [_, _], _ | [_, _, _], _ | [_, _, _, _], _ | [_, _, _, _, _], _ => rfl
  | init | setTmask | tpoll | zpoll | gpoll | epoll => exact absurd hshort (Nat.not_lt_zero _)

/-- A command has the operand count of its format (R73). -/
theorem operands_length (i : Instr) : i.operands.length = i.opcode.format.operandWords := by
  obtain ⟨hlength, _⟩ := encodedShape i
  simp only [encode, Instr.words, List.length_cons] at hlength
  omega

/-- A command's words, followed by any words, decode to that command and leave the rest (R75). -/
theorem decode_encode_append (i : Instr) (rest : List Word) : decode (encode i ++ rest) = .command i rest := by
  rw [encode, List.cons_append, decode_header_cons, takeOperands_operands]
  rfl

/-- A proper front part of a command's words is incomplete, the empty one included (R52). -/
theorem decode_of_encode_eq_append (i : Instr) (words missing : List Word) (hparts : encode i = words ++ missing)
    (hmissing : missing ≠ []) : decode words = .incomplete := by
  cases words with
  | nil => rfl
  | cons h tail =>
    obtain ⟨rfl, hoperands⟩ : i.header = h ∧ i.operands = tail ++ missing := List.cons.inj hparts
    have hshort : tail.length < i.opcode.format.operandWords := by
      have hpos := List.length_pos_of_ne_nil hmissing
      rw [← operands_length, hoperands, List.length_append]
      omega
    rw [decode_header_cons, takeOperands_short _ _ _ hshort]
    rfl

/-! ### The step, from what the stream decodes to (R52, R57) -/

/-- A complete command runs in the state where its words are consumed. -/
theorem step_of_command (s : State) (i : Instr) (rest : List Word) (hs : s.faulted = false)
    (hdecode : decode s.stream = .command i rest) : step s = exec i (s.consumed rest) := by
  simp [step, hs, fetch, hdecode]

/-- With nothing at the port to collect, an engine with part of a command has no step. -/
theorem step_of_incomplete_of_port_nil (s : State) (hs : s.faulted = false)
    (hdecode : decode s.stream = .incomplete) (hport : s.port = []) : step s = .fault .holding := by
  simp [step, hs, fetch, hdecode, hport]

/-- Words at the port that do not complete the command are collected. -/
theorem step_of_incomplete_of_port_ne_nil (s : State) (hs : s.faulted = false)
    (hdecode : decode s.stream = .incomplete) (hport : s.port ≠ []) : step s = .next s.collect := by
  simp [step, hs, fetch, hdecode, hport]

/-- Settles O9: the engine's stream is the buffer's words and then the port's. -/
theorem stepRunsTheDecodedCommand : Obligations.StepRunsTheDecodedCommand := step_of_command

/-- Settles O12: the two cases of an incomplete stream. -/
theorem incompleteCommandHolds : Obligations.IncompleteCommandHolds := fun s hs hdecode =>
  ⟨step_of_incomplete_of_port_nil s hs hdecode, step_of_incomplete_of_port_ne_nil s hs hdecode⟩

/-- What the host writes joins the end of the stream (R51). -/
theorem stream_hostWriteAll (words : List Word) (s : State) :
    (hostWriteAll words s).stream = s.stream ++ words :=
  (List.append_assoc s.asm s.port words).symm

/-- Settles O13: the written words complete the stream to the command's encoding, with nothing after it. -/
theorem missingWordsLiftTheHold : Obligations.MissingWordsLiftTheHold := by
  rintro s i words missing hs rfl hparts hmissing
  refine ⟨decode_of_encode_eq_append i _ missing hparts hmissing, ?_⟩
  have hstream : (hostWriteAll missing s).stream = encode i ++ [] := by
    rw [stream_hostWriteAll, List.append_nil, hparts, State.stream]
  exact step_of_command (hostWriteAll missing s) i [] hs (by rw [hstream, decode_encode_append])

/-! ### The transactions a command may offer (R53, R55) -/

/-- The transactions a command offers when it completes and none of them is answered FAIL, in order: SET_ORIENT's
write is deferred while INIT = 0 (40_orientation.md R105), and only three commands have any. -/
def transactionsOf (i : Instr) (s : State) : List Tx :=
  match i with
  | .setOrient v => if s.init then [madctlWrite s.cfg.params v.toInt] else []
  | .init => [madctlWrite s.cfg.params s.orient.toInt]
  | .blit x y w h buf => blitTransactions (blitWindow s.cfg.params x y w h) buf
  | .setTrot _ | .setTmask _ | .tpoll | .zpoll | .gpoll | .epoll => []

/-- What `transact` adds to the history is a front part of its list: a FAIL ends it early (60_exceptions.md R200). -/
theorem transact_history_prefix (s : State) (ts : List Tx) :
    ∃ offered, offered <+: ts ∧ (s.transact ts).history = s.history ++ offered := by
  obtain ⟨k, _, hhistory, _⟩ := s.transact_spec ts
  exact ⟨ts.take k, List.take_prefix k ts, hhistory⟩

/-- What a command adds to the history is a front part of its transactions: none where it faults, sets the mask or
polls. -/
theorem exec_next_history_prefix (i : Instr) (s t : State) (h : exec i s = .next t) :
    ∃ offered, offered <+: transactionsOf i s ∧ t.history = s.history ++ offered := by
  have offersNothing (hkept : t.history = s.history) :
      ∃ offered, offered <+: transactionsOf i s ∧ t.history = s.history ++ offered :=
    ⟨[], List.nil_prefix, by rw [hkept, List.append_nil]⟩
  rcases exec_next_cases i s t h with hfault | htransact | hmask | hpoll
  · obtain ⟨c, e, rfl, _⟩ := hfault
    exact offersNothing rfl
  · obtain ⟨v, ts, rfl, _, _, rfl, rfl⟩ | ⟨rfl, rfl⟩ | ⟨x, y, w, hh, buf, rfl, _, rfl⟩ := htransact
    · exact transact_history_prefix { s with orient := v } _
    · exact transact_history_prefix { s with init := true } _
    · exact transact_history_prefix s _
  · obtain ⟨d, _, rfl⟩ | ⟨m, _, rfl⟩ := hmask <;> exact offersNothing rfl
  · obtain ⟨e, point, code, rfl, _⟩ := hpoll
    exact offersNothing (by simp)

/-- No command has more transactions than BLIT's three. -/
theorem transactionsOf_length_le (i : Instr) (s : State) : (transactionsOf i s).length ≤ 3 := by
  cases i with
  | setOrient v => cases hinit : s.init <;> simp [transactionsOf, hinit]
  | init => exact Nat.le_add_left 1 2
  | blit x y w h buf => exact Nat.le_refl 3
  | setTrot | setTmask | tpoll | zpoll | gpoll | epoll => exact Nat.zero_le 3

/-- BLIT's three transactions are of the kinds of R53, and none is the memory-access-control write. -/
theorem mem_blitTransactions (w : Window) (buf : Handle) (x : Tx) (hx : x ∈ blitTransactions w buf) :
    x.issued = true ∧ ∀ bytes, x ≠ .wr 0x36 bytes := by
  simp only [blitTransactions, List.mem_cons, List.not_mem_nil, or_false] at hx
  rcases hx with rfl | rfl | rfl
  · exact ⟨rfl, fun bytes => by simp [regColumn]⟩
  · exact ⟨rfl, fun bytes => by simp [regRow]⟩
  · exact ⟨rfl, nofun⟩

/-- Each transaction of a command is of a kind of R53, and the memory-access-control register is written only by INIT
and by a SET_ORIENT that is not deferred (R55). -/
theorem mem_transactionsOf (i : Instr) (s : State) (tx : Tx) (htx : tx ∈ transactionsOf i s) :
    tx.issued = true ∧
      ∀ bytes, tx = .wr 0x36 bytes → i = .init ∨ (∃ v, i = .setOrient v) ∧ s.init = true := by
  cases i with
  | setOrient v =>
    cases hinit : s.init with
    | false => simp [transactionsOf, hinit] at htx
    | true =>
      simp only [transactionsOf, hinit, if_true, List.mem_singleton] at htx
      subst htx
      exact ⟨rfl, fun _ _ => .inr ⟨⟨v, rfl⟩, rfl⟩⟩
  | init =>
    obtain rfl := List.mem_singleton.mp htx
    exact ⟨rfl, fun _ _ => .inl rfl⟩
  | blit x y w h buf =>
    obtain ⟨hissued, hother⟩ := mem_blitTransactions _ buf tx htx
    exact ⟨hissued, fun bytes hwrite => absurd hwrite (hother bytes)⟩
  | setTrot | setTmask | tpoll | zpoll | gpoll | epoll => exact absurd htx List.not_mem_nil

/-- Settles O49: only a step that runs a command adds to the history, and what it adds is a front part of that
command's transactions. -/
theorem stepsOfferOnlyIssuedTransactions : Obligations.StepsOfferOnlyIssuedTransactions := by
  intro s t hstep
  obtain ⟨_, ⟨i, rest, hdecode, hexec⟩ | ⟨why, hd, rest, _, rfl⟩ | ⟨_, _, rfl⟩⟩ := step_next_cases s t hstep
  · obtain ⟨offered, hprefix, hhistory⟩ := exec_next_history_prefix i (s.consumed rest) t hexec
    have hmem (x : Tx) (hx : x ∈ offered) := mem_transactionsOf i (s.consumed rest) x (hprefix.subset hx)
    exact ⟨offered, hhistory, hprefix.length_le.trans (transactionsOf_length_le i _),
      fun x hx => (hmem x hx).1, fun bytes hx => ⟨i, rest, hdecode, (hmem _ hx).2 bytes rfl⟩⟩
  · exact ⟨[], by simp⟩
  · exact ⟨[], by simp⟩

end Sys2Proof.Proofs

/-! PROOFS. The encoding (30_encoding.md): decoder and encoder undo each other, the opcode map's rows against the
decoder, the illegal headers, the assembler's operands. -/

namespace Sys2Proof.Proofs

open Sys2Proof.Machine Sys2Proof.Config

/-! ### Header words and opcodes (R71, R74) -/

/-- A header word is its OPC and its IMM8. -/
theorem headerOpc_append_headerImm (h : Word) : (headerOpc h ++ headerImm h : BitVec 16) = h :=
  append_extractLsb'_bytes h

/-- Bits 15:8, as the quotient by 256. -/
theorem headerOpc_toNat (h : Word) : (headerOpc h).toNat = h.toNat / 256 := by
  have hlt := h.isLt
  rw [headerOpc, BitVec.extractLsb'_toNat, Nat.shiftRight_eq_div_pow]
  omega

/-- Bits 7:0, as the remainder by 256. -/
theorem headerImm_toNat (h : Word) : (headerImm h).toNat = h.toNat % 256 := by
  rw [headerImm, BitVec.extractLsb'_toNat, Nat.shiftRight_zero]

/-- An OPC names at most one opcode, the one whose code it is. -/
theorem opcodeOf_eq_some_iff (opc : BitVec 8) (o : Opcode) : opcodeOf opc = some o ↔ opc = o.code := by
  refine ⟨fun hopc => ?_, fun hcode => hcode ▸ Laws.opcodeOf_code o⟩
  unfold opcodeOf at hopc
  split_ifs at hopc with hcode hcode hcode hcode hcode hcode hcode hcode hcode <;>
    exact Option.some.inj hopc ▸ hcode

/-- No two opcodes have the same code. -/
theorem code_injective : Function.Injective Opcode.code := fun o p hcode =>
  Option.some.inj <| by rw [← Laws.opcodeOf_code o, hcode, Laws.opcodeOf_code p]

/-! ### What decodes to a command (R75, R78) -/

/-- A handle's halves are the two words it was put together from (R64). -/
theorem extractLsb'_append_words (hi lo : Word) :
    (hi ++ lo : BitVec 32).extractLsb' 16 16 = hi ∧ (hi ++ lo : BitVec 32).extractLsb' 0 16 = lo :=
  ⟨BitVec.extractLsb'_append_eq_left, BitVec.extractLsb'_append_eq_right⟩

/-- The operand words taken are the operands of the command read, whose opcode is the one looked for and whose IMM8
is the header's where its format has one. -/
theorem takeOperands_eq_some (o : Opcode) (imm : BitVec 8) (tail rest : List Word) (i : Instr)
    (htake : takeOperands o imm tail = some (i, rest)) :
    i.opcode = o ∧ (o.format = .fi → i.imm8 = imm) ∧ tail = i.operands ++ rest := by
  cases o with
  | setOrient | setTrot =>
    cases tail <;> cases htake
    exact ⟨rfl, nofun, rfl⟩
  | blit =>
    obtain hshort | hlength := Nat.lt_or_ge tail.length Opcode.blit.format.operandWords
    · rw [takeOperands_short _ _ _ hshort] at htake
      cases htake
    · match tail, hlength with
      | x :: y :: w :: h :: hi :: lo :: more, _ =>
        cases htake
        obtain ⟨hhigh, hlow⟩ := extractLsb'_append_words hi lo
        exact ⟨rfl, nofun, by simp [Instr.operands, hhigh, hlow]⟩
  | setTmask =>
    cases htake
    exact ⟨rfl, fun _ => rfl, rfl⟩
  | init | tpoll | zpoll | gpoll | epoll =>
    cases htake
    exact ⟨rfl, nofun, rfl⟩

/-- A header and the words after it decode to a command exactly when the header passes the decoder's two checks and
the operand words are there. -/
theorem decode_cons_eq_command_iff (h : Word) (tail rest : List Word) (i : Instr) :
    decode (h :: tail) = .command i rest ↔
      ∃ o : Opcode, headerOpc h = o.code ∧ (o.format ≠ .fi → headerImm h = 0) ∧
        takeOperands o (headerImm h) tail = some (i, rest) := by
  constructor
  · intro hdecode
    simp only [decode] at hdecode
    split at hdecode
    · cases hdecode
    · next o hopc =>
      split_ifs at hdecode with hreserved
      have hlegal (hformat : o.format ≠ .fi) : headerImm h = 0 := not_not.mp fun hne => hreserved ⟨hformat, hne⟩
      split at hdecode <;> cases hdecode
      next htake => exact ⟨o, (opcodeOf_eq_some_iff _ _).mp hopc, hlegal, htake⟩
  · rintro ⟨o, hcode, hlegal, htake⟩
    have hpasses : ¬ (o.format ≠ .fi ∧ headerImm h ≠ 0) := fun ⟨hformat, hne⟩ => hne (hlegal hformat)
    simp only [decode, (opcodeOf_eq_some_iff _ _).mpr hcode, if_neg hpasses, htake]

/-- Words decode to a command exactly when they are its encoding and the words left over. -/
theorem decode_eq_command_iff (words rest : List Word) (i : Instr) :
    decode words = .command i rest ↔ words = encode i ++ rest := by
  refine ⟨fun hdecode => ?_, fun hwords => hwords ▸ decode_encode_append i rest⟩
  cases words with
  | nil => cases hdecode
  | cons h tail =>
    obtain ⟨o, hcode, hlegal, htake⟩ := (decode_cons_eq_command_iff h tail rest i).mp hdecode
    obtain ⟨rfl, himm, rfl⟩ := takeOperands_eq_some o _ tail rest i htake
    obtain ⟨_, _, _, hzero⟩ := encodedShape i
    have himm8 : headerImm h = i.imm8 := by
      by_cases hformat : i.opcode.format = .fi
      · exact (himm hformat).symm
      · rw [hlegal hformat, hzero hformat]
    rw [encode, Instr.header, ← hcode, ← himm8, headerOpc_append_headerImm]
    rfl

/-- Settles O1: the header passes the decoder's two checks, and the operand words are taken as the operands. -/
theorem decodeOfEncodeIsTheCommand : Obligations.DecodeOfEncodeIsTheCommand := decode_encode_append

/-- Settles O2: the decoder keeps every bit of the header and of the operand words. -/
theorem decodedWordsAreTheEncoding : Obligations.DecodedWordsAreTheEncoding := fun words rest i =>
  (decode_eq_command_iff words rest i).mp

/-- Settles O5: each word sequence is, word for word, the encoding of its command. -/
theorem writtenOutWordsDecode : Obligations.WrittenOutWordsDecode :=
  ⟨decode_encode_append (.setOrient 0xFFFE) [], decode_encode_append .init [],
    decode_encode_append (.blit 10 20 1 2 0xDEADBEEF) [], decode_encode_append (.setTrot 90) [],
    decode_encode_append (.setTmask 0b10000101) [], decode_encode_append .tpoll [], decode_encode_append .zpoll [],
    decode_encode_append .gpoll [], decode_encode_append .epoll []⟩

/-! ### The opcode map, row by row (R73, R74) -/

/-- The nine opcodes in the order of the map. -/
def listedOpcodes : List Opcode := [.setOrient, .init, .blit, .setTrot, .setTmask, .tpoll, .zpoll, .gpoll, .epoll]

theorem mem_listedOpcodes (o : Opcode) : o ∈ listedOpcodes := by cases o <;> decide

/-- The mnemonic column of R74. -/
def mnemonicOf : Opcode → String
  | .setOrient => "SET_ORIENT"
  | .init => "INIT"
  | .blit => "BLIT"
  | .setTrot => "SET_TROT"
  | .setTmask => "SET_TMASK"
  | .tpoll => "TPOLL"
  | .zpoll => "ZPOLL"
  | .gpoll => "GPOLL"
  | .epoll => "EPOLL"

/-- The bits of IMM8 a format fixes to zero (R72): none in FI, all in the others. -/
def reservedImm : Format → BitVec 8
  | .fi => 0x00
  | .f0 | .f1 | .f6 => 0xFF

/-- An opcode's row, computed from the decoder's tables: OPC is matched whole, and IMM8 where it is reserved. -/
def rowOf (o : Opcode) : OpcodeRow :=
  ⟨mnemonicOf o, o.code ++ (0 : BitVec 8), (0xFF : BitVec 8) ++ reservedImm o.format, o.format.operandWords + 1⟩

/-- The opcode map's rows are the listed opcodes' rows. -/
theorem opcodeMap_eq_map_rowOf : opcodeMap = listedOpcodes.map rowOf := by decide

/-- The reserved bits are zero exactly when IMM8 passes the decoder's check (R77). -/
theorem and_reservedImm_eq_zero_iff (imm : BitVec 8) (f : Format) :
    imm &&& reservedImm f = 0 ↔ (f ≠ .fi → imm = 0) := by
  cases f with
  | fi => simp [reservedImm]
  | f0 | f1 | f6 =>
    have hall : imm &&& 0xFF = imm := BitVec.and_allOnes
    simp only [reservedImm, hall, ne_eq, reduceCtorEq, not_false_eq_true, true_implies]

/-- Two headers are the same when both their bytes are. -/
theorem header_append_inj (o p m n : BitVec 8) : (o ++ m : BitVec 16) = p ++ n ↔ o = p ∧ m = n := by
  refine ⟨fun h => ⟨?_, ?_⟩, fun ⟨ho, hm⟩ => ho ▸ hm ▸ rfl⟩
  · rw [← Laws.headerOpc_append o m, h, Laws.headerOpc_append]
  · rw [← Laws.headerImm_append o m, h, Laws.headerImm_append]

/-- A row accepts exactly the headers with its OPC that pass the decoder's check of IMM8. -/
theorem rowOf_accepts_iff (o : Opcode) (h : Word) :
    (rowOf o).accepts h = true ↔ headerOpc h = o.code ∧ (o.format ≠ .fi → headerImm h = 0) := by
  have hall : headerOpc h &&& 0xFF = headerOpc h := BitVec.and_allOnes
  have hmasked : h &&& (rowOf o).mask = headerOpc h ++ (headerImm h &&& reservedImm o.format) := by
    calc h &&& (rowOf o).mask
        = (headerOpc h ++ headerImm h) &&& ((0xFF : BitVec 8) ++ reservedImm o.format) := by
          rw [headerOpc_append_headerImm]; rfl
      _ = headerOpc h ++ (headerImm h &&& reservedImm o.format) := by rw [BitVec.and_append, hall]
  rw [OpcodeRow.accepts, beq_iff_eq, hmasked, ← and_reservedImm_eq_zero_iff]
  exact header_append_inj _ _ _ _

/-- Settles O4: a header's OPC is the code of one opcode only. -/
theorem opcodeRowsAreDisjoint : Obligations.OpcodeRowsAreDisjoint := by
  have hnodup : listedOpcodes.Nodup := by decide
  rw [Obligations.OpcodeRowsAreDisjoint, opcodeMap_eq_map_rowOf, List.pairwise_map]
  refine hnodup.imp fun {o p} hne h ⟨ho, hp⟩ => hne (code_injective ?_)
  obtain ⟨hcode, _⟩ := (rowOf_accepts_iff o h).mp ho
  obtain ⟨hcode', _⟩ := (rowOf_accepts_iff p h).mp hp
  exact hcode.symm.trans hcode'

/-- A whole command is a header with a listed OPC whose IMM8 passes the decoder's check, and the operand words of its
format. -/
theorem wellFormedCommand_cons_iff (h : Word) (operands : List Word) :
    wellFormedCommand (h :: operands) = true ↔
      ∃ o : Opcode, headerOpc h = o.code ∧ (o.format ≠ .fi → headerImm h = 0) ∧
        operands.length = o.format.operandWords := by
  have hrow (o : Opcode) : ((rowOf o).words = operands.length + 1) ↔ operands.length = o.format.operandWords :=
    Nat.succ_inj.trans eq_comm
  simp only [wellFormedCommand, opcodeMap_eq_map_rowOf, List.any_map, List.any_eq_true, Function.comp_apply,
    Bool.and_eq_true, beq_iff_eq, rowOf_accepts_iff, hrow, mem_listedOpcodes, true_and, and_assoc]

/-- Any operand words of an opcode's count are taken, none being left (R79). -/
theorem takeOperands_of_length (o : Opcode) (imm : BitVec 8) (operands : List Word)
    (hlength : operands.length = o.format.operandWords) : ∃ i, takeOperands o imm operands = some (i, []) := by
  cases o with
  | setOrient | setTrot =>
    obtain ⟨v, rfl⟩ := List.length_eq_one_iff.mp hlength
    exact ⟨_, rfl⟩
  | blit =>
    match operands, hlength with
    | [x, y, w, h, hi, lo], _ => exact ⟨.blit x y w h (hi ++ lo), rfl⟩
  | init | setTmask | tpoll | zpoll | gpoll | epoll =>
    obtain rfl := List.length_eq_zero_iff.mp hlength
    exact ⟨_, rfl⟩

/-- The encoding of a command is a whole command. -/
theorem wellFormedCommand_encode (i : Instr) : wellFormedCommand (encode i) = true := by
  obtain ⟨_, hopc, himm, hreserved⟩ := encodedShape i
  refine (wellFormedCommand_cons_iff i.header i.operands).mpr
    ⟨i.opcode, (opcodeOf_eq_some_iff _ _).mp hopc, fun hformat => ?_, operands_length i⟩
  rw [himm, hreserved hformat]

/-- Settles O3: a row's match and length are the decoder's checks of the header and its operand count. -/
theorem opcodeMapAgreesWithDecoder : Obligations.OpcodeMapAgreesWithDecoder := by
  refine fun words => ⟨fun hwf => ?_, fun ⟨i, hdecode⟩ => ?_⟩
  · cases words with
    | nil => cases hwf
    | cons h operands =>
      obtain ⟨o, hcode, hlegal, hlength⟩ := (wellFormedCommand_cons_iff h operands).mp hwf
      obtain ⟨i, htake⟩ := takeOperands_of_length o (headerImm h) operands hlength
      exact ⟨i, (decode_cons_eq_command_iff h operands [] i).mpr ⟨o, hcode, hlegal, htake⟩⟩
  · rw [(decode_eq_command_iff words [] i).mp hdecode, List.append_nil]
    exact wellFormedCommand_encode i

/-! ### Illegal headers (R76, R77) -/

/-- A header whose OPC is no opcode's code is illegal, whatever words follow. -/
theorem decode_cons_of_unassigned (h : Word) (tail : List Word) (hopc : ∀ o : Opcode, headerOpc h ≠ o.code) :
    decode (h :: tail) = .illegal .unassignedOpcode h tail := by
  have hnone : opcodeOf (headerOpc h) = none :=
    Option.eq_none_iff_forall_ne_some.mpr fun o ho => hopc o ((opcodeOf_eq_some_iff _ _).mp ho)
  simp only [decode, hnone]

/-- A header with a listed OPC and a nonzero reserved IMM8 is illegal, whatever words follow. -/
theorem decode_cons_of_reserved (h : Word) (tail : List Word) (o : Opcode) (hcode : headerOpc h = o.code)
    (hformat : o.format ≠ .fi) (himm : headerImm h ≠ 0) :
    decode (h :: tail) = .illegal .reservedImmediate h tail := by
  simp only [decode, (opcodeOf_eq_some_iff _ _).mpr hcode, if_pos (And.intro hformat himm)]

/-- An illegal header faults at once: only it is consumed, and only the fault record is written (60_exceptions.md
R191). -/
theorem step_of_illegal (s : State) (why : IllegalHeader) (h : Word) (rest : List Word) (hs : s.faulted = false)
    (hdecode : decode s.stream = .illegal why h rest) :
    step s = .next ((s.consumed rest).raiseFault .illegalCmd h) := by
  simp [step, hs, fetch, hdecode]

/-- No opcode's code lies in the four ranges of R76. -/
theorem code_assigned (o : Opcode) :
    ¬ (o.code.toNat ≤ 0x0F ∨ (0x13 ≤ o.code.toNat ∧ o.code.toNat ≤ 0x1F) ∨
      (0x23 ≤ o.code.toNat ∧ o.code.toNat ≤ 0x2F) ∨ 0x33 ≤ o.code.toNat) := by
  cases o <;> decide

/-- Settles O14: an OPC in those ranges is the code of no opcode. -/
theorem unassignedOpcodeFaultsAtTheHeader : Obligations.UnassignedOpcodeFaultsAtTheHeader := by
  intro s h rest hs hstream hrange
  rw [← headerOpc_toNat] at hrange
  have hopc (o : Opcode) : headerOpc h ≠ o.code := fun hcode => code_assigned o (hcode ▸ hrange)
  have hdecode : decode s.stream = .illegal .unassignedOpcode h rest := by
    rw [State.stream, hstream, decode_cons_of_unassigned h rest hopc]
  exact step_of_illegal s _ h rest hs hdecode

/-- The codes of the opcodes whose IMM8 is reserved: every listed one but 0x21. -/
theorem reserved_codes :
    (listedOpcodes.filter (·.format ≠ .fi)).map (·.code.toNat) =
      [0x10, 0x11, 0x12, 0x20, 0x22, 0x30, 0x31, 0x32] := by decide

/-- Settles O15: such an OPC is the code of an opcode whose format reserves IMM8. -/
theorem reservedImmediateFaultsAtTheHeader : Obligations.ReservedImmediateFaultsAtTheHeader := by
  intro s h rest hs hstream hopc himm
  rw [← headerOpc_toNat, ← reserved_codes, List.mem_map] at hopc
  obtain ⟨o, ho, hcode⟩ := hopc
  have hformat : o.format ≠ .fi := by simpa using (List.mem_filter.mp ho).2
  have hnonzero : headerImm h ≠ 0 := fun hzero => himm (by rw [← headerImm_toNat, hzero]; rfl)
  have hdecode : decode s.stream = .illegal .reservedImmediate h rest := by
    rw [State.stream, hstream,
      decode_cons_of_reserved h rest o (BitVec.eq_of_toNat_eq hcode.symm) hformat hnonzero]
  exact step_of_illegal s _ h rest hs hdecode

/-! ### The assembler (R81, R84) -/

/-- An operand out of its range is an assembly error. -/
theorem assemble_eq_none_iff (l : AsmLine) : assemble l = none ↔ l.wellFormed = false := by
  cases hl : l.wellFormed <;> simp [assemble, hl]

/-- The ranges of R81, as each line's `wellFormed` states them. -/
theorem wellFormed_setOrient_iff (v : Int) : (AsmLine.setOrient v).wellFormed = true ↔ -32768 ≤ v ∧ v ≤ 32767 :=
  decide_eq_true_iff

theorem wellFormed_setTrot_iff (d : Int) : (AsmLine.setTrot d).wellFormed = true ↔ -32768 ≤ d ∧ d ≤ 32767 :=
  decide_eq_true_iff

theorem wellFormed_setTmask_iff (m : Int) : (AsmLine.setTmask m).wellFormed = true ↔ 0 ≤ m ∧ m ≤ 255 :=
  decide_eq_true_iff

theorem wellFormed_blit_iff (x y w h buf : Int) :
    (AsmLine.blit x y w h buf).wellFormed = true ↔
      (∀ a ∈ [x, y, w, h], 0 ≤ a ∧ a ≤ 65535) ∧ 0 ≤ buf ∧ buf ≤ 0xFFFFFFFF := by
  simp [AsmLine.wellFormed, and_assoc]

/-- A signed operand in its range reads back as the number written (R78). -/
theorem signedOperand_ofInt (v : Int) (hv : -32768 ≤ v ∧ v ≤ 32767) : signedOperand (.ofInt 16 v) = v :=
  BitVec.toInt_ofInt_eq_self (by decide) (by omega) (by omega)

/-- A number that the width holds reads back, unsigned, as itself (R78). -/
theorem toNat_ofInt_of_lt (n : Nat) (v : Int) (hlow : 0 ≤ v) (hhigh : v < 2 ^ n) :
    ((BitVec.ofInt n v).toNat : Int) = v := by
  rw [BitVec.toNat_ofInt, Int.toNat_of_nonneg (Int.emod_nonneg v (by positivity))]
  exact Int.emod_eq_of_lt hlow (by exact_mod_cast hhigh)

/-- An address in its range reads back as the number written (R78). -/
theorem unsignedOperand_ofInt (v : Int) (hlow : 0 ≤ v) (hhigh : v ≤ 65535) : unsignedOperand (.ofInt 16 v) = v :=
  toNat_ofInt_of_lt 16 v hlow (by omega)

/-- Settles O7: a line is refused exactly outside its ranges, and within them no operand loses a bit. -/
theorem assembledOperandsReadBack : Obligations.AssembledOperandsReadBack := by
  refine ⟨fun v hv => ?_, fun m hm => ?_, fun x y w h buf hout => ?_, ⟨rfl, rfl, rfl, rfl, rfl⟩,
    fun v hlow hhigh => ?_, fun m hlow hhigh => ?_, fun x y w h buf hx hx' hy hy' hw hw' hh hh' hbuf hbuf' => ?_⟩
  · have hout : ¬ (-32768 ≤ v ∧ v ≤ 32767) := by omega
    simp [assemble_eq_none_iff, ← Bool.not_eq_true, wellFormed_setOrient_iff, wellFormed_setTrot_iff, hout]
  · have hout : ¬ (0 ≤ m ∧ m ≤ 255) := by omega
    simp [assemble_eq_none_iff, ← Bool.not_eq_true, wellFormed_setTmask_iff, hout]
  · rw [assemble_eq_none_iff, ← Bool.not_eq_true, wellFormed_blit_iff]
    rintro ⟨hwords, hlow, hhigh⟩
    obtain ⟨a, ha, hrange⟩ | hrange := hout
    · have := hwords a ha
      omega
    · omega
  · have hv := And.intro hlow hhigh
    exact ⟨.ofInt 16 v, .ofInt 16 v, if_pos ((wellFormed_setOrient_iff v).mpr hv), signedOperand_ofInt v hv,
      if_pos ((wellFormed_setTrot_iff v).mpr hv), signedOperand_ofInt v hv⟩
  · exact ⟨.ofInt 8 m, if_pos ((wellFormed_setTmask_iff m).mpr ⟨hlow, hhigh⟩), toNat_ofInt_of_lt 8 m hlow (by omega)⟩
  · have hwf : (AsmLine.blit x y w h buf).wellFormed = true :=
      (wellFormed_blit_iff x y w h buf).mpr ⟨by simp [*], hbuf, hbuf'⟩
    exact ⟨_, _, _, _, _, if_pos hwf, unsignedOperand_ofInt x hx hx', unsignedOperand_ofInt y hy hy',
      unsignedOperand_ofInt w hw hw', unsignedOperand_ofInt h hh hh', toNat_ofInt_of_lt 32 buf hbuf (by omega)⟩

/-- Settles O6: every line of R84's table, assembled. -/
theorem encodingExamplesAssemble : Obligations.EncodingExamplesAssemble := by
  unfold Obligations.EncodingExamplesAssemble
  decide

end Sys2Proof.Proofs

/-! PROOFS. Orientation (40_orientation.md): the lookup, SET_ORIENT and INIT case by case, deferral, and that the
orientation and the rotation mask are never synchronised. -/

namespace Sys2Proof.Proofs

open Sys2Proof.Machine Sys2Proof.Config

/-! ### The lookup (R101 to R103) -/

theorem orientPattern_of_nonneg (p : Params) (v : Int) (hv : 0 ≤ v) :
    orientPattern p v = BitVec.ofInt 8 v ||| cboBits p := if_pos hv

theorem orientPattern_of_neg (p : Params) (v : Int) (hv : v < 0) :
    orientPattern p v = tableEntry p (-v - 1).toNat ||| cboBits p := if_neg (by omega)

/-- Where P_OT has an entry, the lookup answers it and no free value. -/
theorem tableEntry_of_getElem? (p : Params) (index : Nat) (b : Byte) (hb : p.ot[index]? = some b) :
    tableEntry p index = b := by
  simp only [tableEntry, hb]

/-- CBO_BITS as a number: bit 3 has the weight 8. -/
theorem cboBits_toNat (p : Params) : (cboBits p).toNat = if p.cbo then 8 else 0 := by
  unfold cboBits
  cases p.cbo <;> rfl

/-- With P_CBO = 0 the OR with CBO_BITS adds nothing. -/
theorem cboBits_of_not_cbo (p : Params) (hcbo : p.cbo = false) : cboBits p = 0 := by
  rw [cboBits, hcbo]
  rfl

/-- The colour-order bit is bit 3 and no other (00_scope.md R8). -/
theorem cboBits_getLsbD (p : Params) (j : Nat) : (cboBits p).getLsbD j = (decide (j = 3) && p.cbo) := by
  unfold cboBits
  cases p.cbo with
  | false => simp
  | true =>
    have hbit : BitVec.ofNat 8 (true.toNat <<< 3) = BitVec.twoPow 8 3 := by decide
    rw [hbit, BitVec.getLsbD_twoPow]
    simp [eq_comm]

/-- Settles O16: both arms of the lookup end in the OR with CBO_BITS, and a legal raw value fits the byte. -/
theorem orientPatternFormula : Obligations.OrientPatternFormula := by
  intro p v
  refine ⟨fun _ hneg b hb => ?_, fun hnonneg hbyte => ?_⟩
  · rw [orientPattern_of_neg p v (by omega), tableEntry_of_getElem? p _ b hb, BitVec.toNat_or, cboBits_toNat]
  · have hraw : (BitVec.ofInt 8 v).toNat = v.toNat := by
      rw [← Int.toNat_natCast (BitVec.ofInt 8 v).toNat, toNat_ofInt_of_lt 8 v hnonneg (by omega)]
    rw [orientPattern_of_nonneg p v hnonneg, BitVec.toNat_or, cboBits_toNat, hraw]

/-- Settles O18: the OR with CBO_BITS, read bit by bit. -/
theorem rawPatternOnlyGainsTheColourBit : Obligations.RawPatternOnlyGainsTheColourBit := by
  intro p v j _ hj
  rw [orientPattern_of_nonneg p v (Int.natCast_nonneg v), BitVec.getLsbD_or, cboBits_getLsbD,
    BitVec.ofInt_natCast, BitVec.getLsbD_ofNat, decide_eq_true hj, Bool.true_and]

/-- The lookup of the logical orientation whose table index is `index` (R102). -/
theorem orientPattern_logical (p : Params) (hcbo : p.cbo = false) (index : Nat) (hindex : index < 4) :
    orientPattern p (-index - 1) = p.ot[index] := by
  have htable : (-(-(index : Int) - 1) - 1).toNat = index := by omega
  rw [orientPattern_of_neg p _ (by omega), htable,
    tableEntry_of_getElem? p index p.ot[index] (Vector.getElem?_eq_getElem hindex), cboBits_of_not_cbo p hcbo]
  exact BitVec.or_zero

/-- Settles O17: the four logical orientations in the table's order; the index range is linear arithmetic. -/
theorem orientationTableIndex : Obligations.OrientationTableIndex := by
  refine ⟨fun p hcbo => ?_, fun v => by omega⟩
  exact ⟨orientPattern_logical p hcbo 0 (by decide), orientPattern_logical p hcbo 1 (by decide),
    orientPattern_logical p hcbo 2 (by decide), orientPattern_logical p hcbo 3 (by decide)⟩

/-! ### SET_ORIENT and INIT, one equation per case (R104, R106) -/

/-- The transaction both commands offer. -/
theorem madctlWrite_eq (p : Params) (v : Int) : madctlWrite p v = .wr 0x36 [orientPattern p v] := rfl

/-- A value below the table's range faults ORIENT_INDEX before anything is written. -/
theorem exec_setOrient_of_lt (v : Word) (s : State) (hv : v.toInt < -4) :
    exec (.setOrient v) s = .next (s.raiseFault .orientIndex 0x1000) := by
  rw [← Laws.header_setOrient v]
  exact congrArg _ (if_pos hv)

/-- A value above one byte faults ORIENT_RANGE before anything is written. -/
theorem exec_setOrient_of_gt (v : Word) (s : State) (hv : 255 < v.toInt) :
    exec (.setOrient v) s = .next (s.raiseFault .orientRange 0x1000) := by
  have hlow : ¬ signedOperand v < -4 := by unfold signedOperand; omega
  rw [← Laws.header_setOrient v]
  exact congrArg _ ((if_neg hlow).trans (if_pos hv))

/-- A legal value is written and offered, the offer deferred while INIT = 0. -/
theorem exec_setOrient_of_legal (v : Word) (s : State) (hlow : -4 ≤ v.toInt) (hhigh : v.toInt ≤ 255) :
    exec (.setOrient v) s =
      .next (({ s with orient := v }.transact (transactionsOf (.setOrient v) s)).advance 1) :=
  congrArg _ ((if_neg (Int.not_lt.mpr hlow)).trans (if_neg (Int.not_lt.mpr hhigh)))

/-- Before INIT a legal SET_ORIENT records its value, and offers nothing (R105). -/
theorem exec_setOrient_deferred (v : Word) (s : State) (hlow : -4 ≤ v.toInt) (hhigh : v.toInt ≤ 255)
    (hinit : s.init = false) :
    exec (.setOrient v) s = .next { s with orient := v, xerr := false, cidx := s.cidx + 2 } := by
  have hdeferred : transactionsOf (.setOrient v) s = [] := by simp [transactionsOf, hinit]
  rw [exec_setOrient_of_legal v s hlow hhigh, hdeferred, State.transact_nil]
  rfl

/-- After INIT a legal SET_ORIENT also offers its pattern, once. -/
theorem exec_setOrient_applied (v : Word) (s : State) (hlow : -4 ≤ v.toInt) (hhigh : v.toInt ≤ 255)
    (hinit : s.init = true) :
    exec (.setOrient v) s = .next { s with
      orient := v, xerr := decide (s.env.nextAnswer = .fail), cidx := s.cidx + 2,
      history := s.history ++ [.wr 0x36 [orientPattern s.cfg.params v.toInt]], env := s.env.afterAnswer } := by
  have hoffered : transactionsOf (.setOrient v) s = [madctlWrite s.cfg.params v.toInt] := by
    simp [transactionsOf, hinit]
  rw [exec_setOrient_of_legal v s hlow hhigh, hoffered, State.transact_single, madctlWrite_eq]
  rfl

/-- Settles O21: INIT's one case offers one transaction. -/
theorem initAppliesTheOrientation : Obligations.InitAppliesTheOrientation := by
  intro s
  rw [exec_init, State.transact_single, madctlWrite_eq]
  rfl

/-- Settles O19: the check's two faults, and a legal value before and after INIT. -/
theorem setOrientSetsOrFaults : Obligations.SetOrientSetsOrFaults := fun v s =>
  ⟨exec_setOrient_of_lt v s, exec_setOrient_of_gt v s, exec_setOrient_deferred v s, exec_setOrient_applied v s⟩

/-! ### Deferral and transport failure (R105, R107) -/

/-- An illegal value faults at once, whatever INIT is: ORIENT and the history stay. -/
theorem exec_setOrient_of_illegal (v : Word) (s : State) (hv : v.toInt < -4 ∨ 255 < v.toInt) :
    ∃ t, exec (.setOrient v) s = .next t ∧ t.faulted = true ∧ t.orient = s.orient ∧ t.history = s.history := by
  rcases hv with hlow | hhigh
  · exact ⟨_, exec_setOrient_of_lt v s hlow, rfl, rfl, rfl⟩
  · exact ⟨_, exec_setOrient_of_gt v s hhigh, rfl, rfl, rfl⟩

/-- Settles O20: the first SET_ORIENT is deferred and leaves INIT = 0, so the second is deferred or faults, and INIT
reads the ORIENT that the second one left. -/
theorem deferredOrientationReachesThePanelAtInit : Obligations.DeferredOrientationReachesThePanelAtInit := by
  intro v w s hinit hvlow hvhigh
  have hfirst := exec_setOrient_deferred v s hvlow hvhigh hinit
  refine ⟨fun hwlow hwhigh => ?_, fun hillegal => ?_⟩
  · exact ⟨_, _, _, hfirst, exec_setOrient_deferred w _ hwlow hwhigh hinit, initAppliesTheOrientation _,
      rfl, rfl, rfl, rfl, rfl⟩
  · obtain ⟨u, hsecond, hfaulted, horient, hhistory⟩ := exec_setOrient_of_illegal w _ hillegal
    exact ⟨_, u, hfirst, hsecond, hfaulted, horient, hhistory⟩

/-- Settles O22: a FAIL shows in XERR only; the equations of the two commands have the same writes for both answers. -/
theorem failedOrientationWriteStands : Obligations.FailedOrientationWriteStands := by
  intro v s hfail
  refine ⟨fun hinit hlow hhigh => ?_, ?_⟩
  · exact ⟨_, exec_setOrient_applied v s hlow hhigh hinit, rfl, decide_eq_true hfail, rfl, rfl, List.length_append⟩
  · exact ⟨_, initAppliesTheOrientation s, rfl, decide_eq_true hfail, rfl, rfl, List.length_append⟩

/-! ### Orientation and mask apart (R110) -/

/-- Of the four things a command can do, only SET_ORIENT's transacting case writes ORIENT. -/
theorem exec_next_orient (i : Instr) (s t : State) (h : exec i s = .next t) (hi : ∀ v, i ≠ .setOrient v) :
    t.orient = s.orient := by
  rcases exec_next_cases i s t h with hfault | htransact | hmask | hpoll
  · obtain ⟨c, e, rfl, _⟩ := hfault
    rfl
  · obtain ⟨v, ts, hset, _⟩ | ⟨_, rfl⟩ | ⟨x, y, w, hh, buf, _, _, rfl⟩ := htransact
    · exact absurd hset (hi v)
    · simp
    · simp
  · obtain ⟨d, _, rfl⟩ | ⟨m, _, rfl⟩ := hmask <;> rfl
  · obtain ⟨e, point, code, rfl, _⟩ := hpoll
    simp

/-- Of the four things a command can do, only `SetMask` writes TMASK, MAXX and MAXY (42_touch.md R141). -/
theorem exec_next_mask (i : Instr) (s t : State) (h : exec i s = .next t) (htrot : ∀ d, i ≠ .setTrot d)
    (htmask : ∀ m, i ≠ .setTmask m) : t.tmask = s.tmask ∧ t.maxx = s.maxx ∧ t.maxy = s.maxy := by
  rcases exec_next_cases i s t h with hfault | htransact | hmask | hpoll
  · obtain ⟨c, e, rfl, _⟩ := hfault
    exact ⟨rfl, rfl, rfl⟩
  · obtain ⟨v, ts, _, _, _, _, rfl⟩ | ⟨_, rfl⟩ | ⟨x, y, w, hh, buf, _, _, rfl⟩ := htransact <;> simp
  · obtain ⟨d, hset, _⟩ | ⟨m, hset, _⟩ := hmask
    · exact absurd hset (htrot d)
    · exact absurd hset (htmask m)
  · obtain ⟨e, point, code, rfl, _⟩ := hpoll
    simp

/-- Settles O23: the frames of ORIENT and of the mask, over every command. -/
theorem orientationAndMaskAreNeverSynchronised : Obligations.OrientationAndMaskAreNeverSynchronised :=
  fun i s t h => ⟨exec_next_orient i s t h, exec_next_mask i s t h⟩

end Sys2Proof.Proofs

/-! PROOFS. Addressing (41_addressing.md): the address bytes, BLIT's two cases, its transactions for every course of
answers, and empty rectangles. -/

namespace Sys2Proof.Proofs

open Sys2Proof.Machine Sys2Proof.Config

/-! ### Address bytes (R122) -/

/-- The two bytes of an address, as quotient and remainder by 256; narrowing to 16 bits first changes neither. -/
theorem bigEndian_ofInt (a : Int) : bigEndian (.ofInt 16 a) = [.ofInt 8 (a / 256), .ofInt 8 (a % 256)] := by
  have hhigh : (BitVec.ofInt 16 a).extractLsb' 8 8 = .ofInt 8 (a / 256) := by
    apply BitVec.eq_of_toNat_eq
    simp only [BitVec.extractLsb'_toNat, BitVec.toNat_ofInt, Nat.shiftRight_eq_div_pow]
    omega
  have hlow : (BitVec.ofInt 16 a).extractLsb' 0 8 = .ofInt 8 (a % 256) := by
    apply BitVec.eq_of_toNat_eq
    simp only [BitVec.extractLsb'_toNat, BitVec.toNat_ofInt, Nat.shiftRight_zero]
    omega
  rw [bigEndian, hhigh, hlow]

/-- For an address given as a natural number the low byte keeps the address modulo 256 by itself. -/
theorem bigEndian_natCast (a : Nat) : bigEndian (.ofInt 16 a) = [.ofNat 8 (a / 256), .ofNat 8 a] := by
  have hlow : BitVec.ofNat 8 (a % 256) = .ofNat 8 a := BitVec.eq_of_toNat_eq (by simp)
  rw [bigEndian_ofInt, ← hlow]
  rfl

/-! ### BLIT, one equation per case (R121, R123) -/

/-- R120's window, written with its end bounds relative to its start bounds. -/
theorem blitWindow_eq (p : Params) (x y w h : Word) (x1 x2 y1 y2 : Int) (hx1 : x1 = x.toNat + p.offX)
    (hx2 : x2 = x1 + w.toNat - 1) (hy1 : y1 = y.toNat + p.offY) (hy2 : y2 = y1 + h.toNat - 1) :
    blitWindow p x y w h = ⟨x1, y1, x2, y2⟩ := by
  subst hx2 hy2 hx1 hy1
  rfl

/-- A legal window's transactions are offered, and CIDX moves past BLIT's seven words. -/
theorem exec_blit_of_legal (x y w h : Word) (buf : Handle) (s : State) (win : Window)
    (hwin : blitWindow s.cfg.params x y w h = win) (hlegal : win.Legal) :
    exec (.blit x y w h buf) s = .next ((s.transact (blitTransactions win buf)).advance 6) := by
  subst hwin
  exact congrArg _ (if_pos hlegal)

/-- An illegal window faults WINDOW_RANGE before anything is offered. -/
theorem exec_blit_of_not_legal (x y w h : Word) (buf : Handle) (s : State) (win : Window)
    (hwin : blitWindow s.cfg.params x y w h = win) (hillegal : ¬ win.Legal) :
    exec (.blit x y w h buf) s = .next (s.raiseFault .windowRange 0x1200) := by
  subst hwin
  rw [← Laws.header_blit x y w h buf]
  exact congrArg _ (if_neg hillegal)

/-- A window is illegal exactly when one of its four bounds does not fit 16 bits (R121). -/
theorem not_legal_iff_exists_bound (win : Window) :
    ¬ win.Legal ↔ ∃ a ∈ [win.x1, win.x2, win.y1, win.y2], a < 0 ∨ 65535 < a := by
  simp only [Window.Legal, Addressable, List.mem_cons, List.not_mem_nil, or_false, exists_eq_or_imp, exists_eq_left]
  omega

/-- Settles O25: the faulting case leaves CIDX, and the completing one does not. -/
theorem illegalWindowFaults : Obligations.IllegalWindowFaults := by
  intro x y w h buf s x1 x2 y1 y2 hx1 hx2 hy1 hy2
  have hwin := blitWindow_eq s.cfg.params x y w h x1 x2 y1 y2 hx1 hx2 hy1 hy2
  rw [← not_legal_iff_exists_bound ⟨x1, y1, x2, y2⟩]
  refine ⟨exec_blit_of_not_legal x y w h buf s _ hwin, fun hfaults hlegal => ?_⟩
  rw [exec_blit_of_legal x y w h buf s _ hwin hlegal, Host.Outcome.next.injEq] at hfaults
  have hcidx : s.cidx + 7 = s.cidx := by simpa using congrArg State.cidx hfaults
  bv_omega

/-! ### Offering several transactions (R54, R127) -/

/-- A first transaction answered FAIL is the only one offered. -/
theorem transact_cons_fail (s : State) (t : Tx) (more : List Tx) (h : s.env.nextAnswer = .fail) :
    s.transact (t :: more) =
      { s with xerr := true, history := s.history ++ [t], env := s.env.answered 1 } :=
  State.offer_cons_fail { s with xerr := false } t more h

/-- After a first transaction answered OK the others are offered as if they were the command's only ones. -/
theorem transact_cons_ok (s : State) (t : Tx) (more : List Tx) (h : s.env.nextAnswer = .ok) :
    s.transact (t :: more) = (s.emit t).transact more :=
  State.offer_cons_ok { s with xerr := false } t more h

/-- The first transaction is offered whatever the answers are. -/
theorem transact_cons_history (s : State) (t : Tx) (ts : List Tx) :
    ∃ more, (s.transact (t :: ts)).history = s.history ++ t :: more := by
  cases hanswer : s.env.nextAnswer with
  | fail => exact ⟨[], by rw [transact_cons_fail s t ts hanswer]⟩
  | ok =>
    obtain ⟨offered, _, hhistory⟩ := transact_history_prefix (s.emit t) ts
    exact ⟨offered, by rw [transact_cons_ok s t ts hanswer, hhistory]; simp⟩

/-! ### The transactions of a window (R122, R125, R126) -/

theorem blitTransactions_ofInt (x1 y1 x2 y2 : Int) (buf : Handle) :
    blitTransactions ⟨x1, y1, x2, y2⟩ buf =
      [ .wr 0x2A [.ofInt 8 (x1 / 256), .ofInt 8 (x1 % 256), .ofInt 8 (x2 / 256), .ofInt 8 (x2 % 256)],
        .wr 0x2B [.ofInt 8 (y1 / 256), .ofInt 8 (y1 % 256), .ofInt 8 (y2 / 256), .ofInt 8 (y2 % 256)],
        .px 0x2C buf (.ofInt 16 x1) (.ofInt 16 y1) (.ofInt 16 x2) (.ofInt 16 y2) ] := by
  simp only [blitTransactions, windowBytes, bigEndian_ofInt]
  rfl

/-- Settles O24: the legal case's three transactions, by which of their answers is the first FAIL. -/
theorem blitOffersItsWindow : Obligations.BlitOffersItsWindow := by
  intro x y w h buf s x1 x2 y1 y2 hx1 hx2 hy1 hy2 hx1r hx2r hy1r hy2r column row pixels hcolumn hrow hpixels
  have hexec : exec (.blit x y w h buf) s = .next ((s.transact [column, row, pixels]).advance 6) := by
    rw [exec_blit_of_legal x y w h buf s _ (blitWindow_eq s.cfg.params x y w h x1 x2 y1 y2 hx1 hx2 hy1 hy2)
      ⟨hx1r, hx2r, hy1r, hy2r⟩, blitTransactions_ofInt, hcolumn, hrow, hpixels]
  rw [hexec]
  refine ⟨fun hfail => ?_, fun hok hfail => ?_, fun hok hok' => ?_⟩
  · rw [transact_cons_fail s column _ hfail]
    rfl
  · rw [transact_cons_ok s column _ hok, transact_cons_fail (s.emit column) row _ hfail, State.emit_history,
      List.append_assoc]
    rfl
  · rw [transact_cons_ok s column _ hok, transact_cons_ok (s.emit column) row _ hok', State.transact_single,
      State.emit_history, State.emit_history, List.append_assoc, List.append_assoc]
    rfl

/-! ### Empty rectangles (R128) -/

/-- The parameter list of an address range that ends one below its start. -/
theorem windowBytes_empty (a : Nat) (ha : 1 ≤ a) :
    windowBytes (.ofInt 16 a) (.ofInt 16 ((a : Int) - 1)) =
      [.ofNat 8 (a / 256), .ofNat 8 a, .ofNat 8 ((a - 1) / 256), .ofNat 8 (a - 1)] := by
  have hlast : (a : Int) - 1 = (a - 1 : Nat) := by omega
  rw [windowBytes, hlast, bigEndian_natCast, bigEndian_natCast]
  rfl

/-- Settles O27: an empty rectangle's end is its start - 1, which is illegal at 0 only; the address writes come
first in the transactions. -/
theorem emptyRectanglesAreOfferedLiterally : Obligations.EmptyRectanglesAreOfferedLiterally := by
  intro x y w h buf s x1 y1 hx1 hy1
  have hwidth : blitWindow s.cfg.params x y 0 h = ⟨x1, y1, x1 - 1, y1 + h.toNat - 1⟩ :=
    blitWindow_eq _ x y 0 h _ _ _ _ (by omega) (by simp) (by omega) rfl
  have hheight : blitWindow s.cfg.params x y w 0 = ⟨x1, y1, x1 + w.toNat - 1, y1 - 1⟩ :=
    blitWindow_eq _ x y w 0 _ _ _ _ (by omega) rfl (by omega) (by simp)
  refine ⟨fun hzero => ?_, fun hzero => ?_, fun hlow hhigh hh hbottom => ?_, fun hlow hhigh hw hright hok => ?_⟩
  · exact exec_blit_of_not_legal x y 0 h buf s _ hwidth
      ((not_legal_iff_exists_bound _).mpr ⟨(x1 : Int) - 1, by simp, .inl (by omega)⟩)
  · exact exec_blit_of_not_legal x y w 0 buf s _ hheight
      ((not_legal_iff_exists_bound _).mpr ⟨(y1 : Int) - 1, by simp, .inl (by omega)⟩)
  · have hexec := exec_blit_of_legal x y 0 h buf s _ hwidth (by simp only [Window.Legal, Addressable]; omega)
    rw [blitTransactions, windowBytes_empty x1 hlow] at hexec
    obtain ⟨more, hhistory⟩ := transact_cons_history s _ _
    exact ⟨_, more, hexec, by simp, hhistory⟩
  · have hexec := exec_blit_of_legal x y w 0 buf s _ hheight (by simp only [Window.Legal, Addressable]; omega)
    rw [blitTransactions, windowBytes_empty y1 hlow, transact_cons_ok s _ _ hok] at hexec
    obtain ⟨more, hhistory⟩ := transact_cons_history (s.emit _) _ _
    exact ⟨_, _, more, hexec, by simp, hhistory.trans (by rw [State.emit_history, List.append_assoc]; rfl)⟩

end Sys2Proof.Proofs

/-! PROOFS. Touch (42_touch.md): the canonical masks of the degree values, SET_TROT and SET_TMASK, the transform for
each mask and its range, what a poll acquires, and TPOLL. -/

namespace Sys2Proof.Proofs

open Sys2Proof.Machine Sys2Proof.Config

/-! ### Floor division (00_scope.md R12) -/

/-- The model's `//` is Lean's division that rounds to -∞. -/
theorem floorDiv_eq_fdiv (a b : Int) (hb : 0 ≤ b) : floorDiv a b = Int.fdiv a b :=
  (Int.fdiv_eq_ediv_of_nonneg a hb).symm

/-- The model's `mod` is the remainder of the division that rounds to -∞. -/
theorem floorMod_eq_fmod (a b : Int) (hb : 0 ≤ b) : floorMod a b = Int.fmod a b := by
  rw [floorMod, floorDiv_eq_fdiv a b hb, Int.fmod_def]

/-! ### The canonical masks (R140, R142) -/

/-- The table index, `(d // 90) mod 4` in floor division. -/
theorem rotationIndex_eq (d : Int) : rotationIndex d = Fin.ofNat 4 (Int.fmod (Int.fdiv d 90) 4).toNat := by
  rw [← floorDiv_eq_fdiv d 90 (by decide), ← floorMod_eq_fmod (floorDiv d 90) 4 (by decide)]
  rfl

/-- The table's entry for a degree value: the index has four values, one entry each. -/
theorem rotationMasks_rotationIndex (d : Int) :
    rotationMasks[rotationIndex d] =
      if Int.fmod (Int.fdiv d 90) 4 = 0 then 0b000
      else if Int.fmod (Int.fdiv d 90) 4 = 1 then 0b101
      else if Int.fmod (Int.fdiv d 90) 4 = 2 then 0b110
      else 0b011 := by
  have hlow : 0 ≤ Int.fmod (Int.fdiv d 90) 4 := Int.fmod_nonneg_of_pos _ (by decide)
  have hhigh : Int.fmod (Int.fdiv d 90) 4 < 4 := Int.fmod_lt_of_pos _ (by decide)
  obtain hindex | hindex | hindex | hindex :
      Int.fmod (Int.fdiv d 90) 4 = 0 ∨ Int.fmod (Int.fdiv d 90) 4 = 1 ∨ Int.fmod (Int.fdiv d 90) 4 = 2 ∨
        Int.fmod (Int.fdiv d 90) 4 = 3 := by omega
  all_goals
    simp only [rotationIndex_eq, hindex]
    rfl

/-- A full turn adds 4 to `d // 90`, which `mod 4` drops (R149 (a)). -/
theorem rotationIndex_add_full_turn (d : Int) : rotationIndex (d + 360) = rotationIndex d := by
  have hquarters : Int.fdiv (d + 4 * 90) 90 = Int.fdiv d 90 + 4 := Int.add_mul_fdiv_right d 4 (by decide)
  rw [rotationIndex_eq, rotationIndex_eq, show (360 : Int) = 4 * 90 from rfl, hquarters, Int.add_fmod_right]

/-! ### SET_TROT and SET_TMASK (R141 to R143) -/

/-- Both commands set a mask, recompute MAXX and MAXY and complete; neither can fault. -/
theorem setMask_finish (s : State) (m : BitVec 3) (k : Nat) :
    (s.setMask m).finish k = { s with
      tmask := m, maxx := maxXOf s.cfg, maxy := maxYOf s.cfg, xerr := false,
      cidx := s.cidx + BitVec.ofNat 32 (1 + k) } := rfl

theorem exec_setTrot (d : Word) (s : State) :
    exec (.setTrot d) s = .next ((s.setMask rotationMasks[rotationIndex d.toInt]).finish 1) := rfl

theorem exec_setTmask (m : BitVec 8) (s : State) :
    exec (.setTmask m) s = .next ((s.setMask (maskOperand m)).finish 0) := rfl

/-- Bits 2:0 of the immediate, as the remainder by 8 (30_encoding.md R78). -/
theorem maskOperand_eq_ofNat (m : BitVec 8) : maskOperand m = .ofNat 3 (m.toNat % 8) := by
  apply BitVec.eq_of_toNat_eq
  rw [maskOperand, BitVec.extractLsb'_toNat, Nat.shiftRight_zero, BitVec.toNat_ofNat, Nat.mod_mod]

/-- Settles O28: the table's entry for each of the four indices. -/
theorem setTrotSetsTheCanonicalMask : Obligations.SetTrotSetsTheCanonicalMask := by
  intro d s
  rw [exec_setTrot, setMask_finish, rotationMasks_rotationIndex]
  rfl

/-- Settles O29: the operand's three bits are its remainder by 8. -/
theorem setTmaskKeepsThreeBits : Obligations.SetTmaskKeepsThreeBits := by
  intro m s
  rw [exec_setTmask, setMask_finish, maskOperand_eq_ofNat]
  rfl

/-! ### The transform (R144) -/

/-- Settles O30, mask by mask: bit 0 swaps, bit 1 inverts x, bit 2 inverts y. -/
theorem normalizeFollowsTheMask : Obligations.NormalizeFollowsTheMask := by
  intro s rx ry
  unfold State.normalize
  generalize s.tmask = mask
  match mask with
  | 0b000#3 | 0b001#3 | 0b010#3 | 0b011#3 | 0b100#3 | 0b101#3 | 0b110#3 | 0b111#3 => rfl

/-- A normalized coordinate is a raw one, or a raw one subtracted from MAXX or MAXY. -/
theorem normalize_coordinate (s : State) (rx ry v : Int)
    (hv : v ∈ [(s.normalize rx ry).1, (s.normalize rx ry).2]) :
    ∃ raw ∈ [rx, ry], v = raw ∨ v = s.maxx.toInt - raw ∨ v = s.maxy.toInt - raw := by
  simp only [State.normalize, List.mem_cons, List.not_mem_nil, or_false] at hv
  generalize hswap : (if s.tmask[0] then (ry, rx) else (rx, ry)) = p at hv
  have hraw : p.1 ∈ [rx, ry] ∧ p.2 ∈ [rx, ry] := by
    subst hswap
    cases s.tmask[0] <;> simp
  obtain ⟨hfst, hsnd⟩ := hraw
  rcases hv with rfl | rfl
  · exact ⟨p.1, hfst, by cases s.tmask[1] <;> simp⟩
  · exact ⟨p.2, hsnd, by cases s.tmask[2] <;> simp⟩

/-- Settles O31: R33 puts MAXX and MAXY in 0..65534, so a raw coordinate subtracted from them is at least -65535. -/
theorem normalizedPointsFitPT : Obligations.NormalizedPointsFitPT := by
  intro s rx ry ⟨_, hmaxx, hmaxy, _⟩ v hv
  obtain ⟨⟨hwidth, hwidth'⟩, ⟨hheight, hheight'⟩, _⟩ := s.cfg.ranges
  obtain ⟨raw, hraw, hcases⟩ := normalize_coordinate s rx.toNat ry.toNat v hv
  have hrange : 0 ≤ raw ∧ raw ≤ 65535 := by
    have hx := rx.isLt
    have hy := ry.isLt
    simp only [List.mem_cons, List.not_mem_nil, or_false] at hraw
    omega
  have hlow : -65535 ≤ v := by omega
  have hhigh : v ≤ 65535 := by omega
  exact ⟨hlow, hhigh, BitVec.toInt_ofInt_eq_self (by decide) (by omega) (by omega)⟩

/-! ### Rotation properties (R149) -/

theorem normalize_of_tmask_zero (s : State) (rx ry : Int) (hmask : s.tmask = 0b000) :
    s.normalize rx ry = (rx, ry) := by
  simp [normalizeFollowsTheMask s rx ry, hmask]

theorem normalize_of_invert_x (s : State) (rx ry : Int) (hmask : s.tmask = 0b010) :
    s.normalize rx ry = (s.maxx.toInt - rx, ry) := by
  simp [normalizeFollowsTheMask s rx ry, hmask]

theorem normalize_of_invert_y (s : State) (rx ry : Int) (hmask : s.tmask = 0b100) :
    s.normalize rx ry = (rx, s.maxy.toInt - ry) := by
  simp [normalizeFollowsTheMask s rx ry, hmask]

/-- Settles O34: a full turn keeps the table index, and subtracting twice from one maximum undoes itself. -/
theorem touchRotationProperties : Obligations.TouchRotationProperties := by
  refine ⟨fun d e s t u hturn ht hu => ?_, normalize_of_tmask_zero, fun s rx ry hmask => ?_, fun s rx ry hmask => ?_⟩
  · rw [exec_setTrot] at ht hu
    cases ht
    cases hu
    have hindex : rotationIndex e.toInt = rotationIndex d.toInt := by rw [hturn, rotationIndex_add_full_turn]
    simp only [State.finish_tmask, State.setMask_tmask, hindex]
  · rw [normalize_of_invert_x s _ _ hmask, normalize_of_invert_x s rx ry hmask, sub_sub_cancel]
  · rw [normalize_of_invert_y s _ _ hmask, normalize_of_invert_y s rx ry hmask, sub_sub_cancel]

/-! ### What a poll acquires (R145) -/

/-- The answer of `Acquire()`: the raw point the sample carries, if any, normalized. -/
theorem acquired_eq_map (s : State) :
    s.acquired = (samplePoint s.env.nextSample).map fun raw => s.normalize raw.1.toNat raw.2.toNat := by
  rw [State.acquired]
  cases samplePoint s.env.nextSample <;> rfl

/-- The three kinds of sample without a touch. -/
theorem samplePoint_eq_none_of_mem (x : Sample) (hx : x ∈ [Sample.none, .notReady, .list []]) :
    samplePoint x = none := by
  simp only [List.mem_cons, List.not_mem_nil, or_false] at hx
  rcases hx with rfl | rfl | rfl <;> rfl

theorem samplePoint_point (rx ry : BitVec 16) : samplePoint (.point rx ry) = some (rx, ry) := rfl

theorem samplePoint_list_cons (p : BitVec 16 × BitVec 16) (more : List (BitVec 16 × BitVec 16)) :
    samplePoint (.list (p :: more)) = some p := rfl

/-- Settles O32: the raw point of each kind of sample. -/
theorem acquireTakesTheFirstPoint : Obligations.AcquireTakesTheFirstPoint := by
  intro s
  rw [acquired_eq_map]
  refine ⟨fun hnone => ?_, fun rx ry hpoint => ?_, fun rx ry more hlist => ?_⟩
  · rw [samplePoint_eq_none_of_mem _ hnone, Option.map_none]
  · rw [hpoint, samplePoint_point, Option.map_some]
  · rw [hlist, samplePoint_list_cons, Option.map_some]

/-! ### TPOLL (R146) -/

/-- Without the sensor TPOLL faults SOURCE_ABSENT before any read (43_input.md R170). -/
theorem exec_tpoll_of_ne (s : State) (hsource : s.cfg.params.source ≠ .coord) :
    exec .tpoll s = .next (s.raiseFault .sourceAbsent 0x2200) := by
  rw [← Laws.header_tpoll]
  exact congrArg _ (s.requireSource_of_ne .coord _ _ hsource)

/-- With the sensor TPOLL reads it, writes PT and clears CODE. -/
theorem exec_tpoll_of_eq (s : State) (hsource : s.cfg.params.source = .coord) :
    exec .tpoll s = .next (((s.sampleRead.setPoint s.acquired).setCode none).finish 0) :=
  congrArg _ (s.requireSource_of_eq .coord _ _ hsource)

/-- Settles O33: the absent source, and what `setPoint` writes for no touch and for a touch. -/
theorem tpollReportsThePoint : Obligations.TpollReportsThePoint := by
  intro s
  refine ⟨fun hsource => ?_, fun hsource hnone => ?_, fun x y hsource hpoint => ?_⟩
  · exact exec_tpoll_of_ne s (by simp [hsource])
  · rw [exec_tpoll_of_eq s hsource, hnone]
    rfl
  · rw [exec_tpoll_of_eq s hsource, hpoint]
    rfl

end Sys2Proof.Proofs

/-! PROOFS. Input (43_input.md): the bands and the zone codes, the grid's range and its cells' codes, and ZPOLL,
GPOLL and EPOLL case by case. -/

namespace Sys2Proof.Proofs

open Sys2Proof.Machine Sys2Proof.Config

/-! ### Bands (R160) -/

theorem band_eq_first_iff (v : Int) (size : Nat) : band v size = .first ↔ 3 * v < size := by
  unfold band
  split_ifs <;> simp [*]

/-- Above the second third a coordinate is not below the first, so the order of the two comparisons is no matter. -/
theorem band_eq_last_iff (v : Int) (size : Nat) : band v size = .last ↔ 2 * (size : Int) < 3 * v := by
  unfold band
  split_ifs with hfirst hlast
  · exact iff_of_false nofun (by omega)
  · simp [hlast]
  · simp [hlast]

/-- The middle band is what the other two leave, the thirds themselves included. -/
theorem band_eq_middle_iff (v : Int) (size : Nat) :
    band v size = .middle ↔ (size : Int) ≤ 3 * v ∧ 3 * v ≤ 2 * (size : Int) := by
  rw [← not_lt, ← not_lt, ← band_eq_first_iff, ← band_eq_last_iff]
  cases band v size <;> simp

/-- Settles O35: the three comparisons, and that a coordinate off the dimension is beyond one of the thirds. -/
theorem bandIsExactAndTotal : Obligations.BandIsExactAndTotal := by
  intro v size hsize
  refine ⟨band_eq_first_iff v size, band_eq_last_iff v size, band_eq_middle_iff v size, fun hv => ?_, fun hv => ?_⟩
  · exact (band_eq_first_iff v size).mpr (by omega)
  · exact (band_eq_last_iff v size).mpr (by omega)

/-! ### Zones (R161) -/

/-- A band's number in R160: 0, 1 or 2. -/
def bandNumber : Band → Nat
  | .first => 0
  | .middle => 1
  | .last => 2

theorem bandNumber_band (v : Int) (size : Nat) :
    bandNumber (band v size) = if 3 * v < size then 0 else if 2 * (size : Int) < 3 * v then 2 else 1 := by
  unfold band
  split_ifs <;> rfl

/-- The nine entries of the zone table in one formula. -/
theorem zoneCode_toNat (r c : Band) : (zoneCode r c).toNat = 7 + bandNumber c - 3 * bandNumber r := by
  cases r <;> cases c <;> rfl

/-- Settles O36: the formula of the table at the numbers of the point's two bands. -/
theorem zoneCodesFormTheKeypad : Obligations.ZoneCodesFormTheKeypad := by
  intro p x y c r hc hr
  rw [zone, zoneCode_toNat, bandNumber_band, bandNumber_band, ← hc, ← hr]

/-! ### The grid's range (R164) -/

/-- Scaling a coordinate of a dimension of `size` to `n` cells hits a cell exactly from inside the dimension. -/
theorem floorDiv_mul_mem_range_iff (v : Int) (n size : Nat) (hn : 1 ≤ n) (hsize : 1 ≤ size) :
    (0 ≤ floorDiv (v * n) size ∧ floorDiv (v * n) size < n) ↔ (0 ≤ v ∧ v < size) := by
  have hn' : (0 : Int) < n := by omega
  have hsize' : (0 : Int) < size := by omega
  have hlow : 0 ≤ floorDiv (v * n) size ↔ 0 ≤ v := by
    rw [floorDiv, Int.le_ediv_iff_mul_le hsize', zero_mul, mul_nonneg_iff_of_pos_right hn']
  have hhigh : floorDiv (v * n) size < n ↔ v < size := by
    rw [floorDiv, Int.ediv_lt_iff_lt_mul hsize', mul_comm v, mul_lt_mul_iff_right₀ hn']
  rw [hlow, hhigh]

theorem gridRow_mem_range_iff (c : Instantiation) (y : Int) :
    (0 ≤ gridRow c.params y ∧ gridRow c.params y < c.params.rows) ↔ (0 ≤ y ∧ y < c.params.height) := by
  obtain ⟨_, ⟨hheight, _⟩, _, _, _, ⟨hrows, _⟩, _⟩ := c.ranges
  exact floorDiv_mul_mem_range_iff y c.params.rows c.params.height hrows hheight

theorem gridCol_mem_range_iff (c : Instantiation) (x : Int) :
    (0 ≤ gridCol c.params x ∧ gridCol c.params x < c.params.cols) ↔ (0 ≤ x ∧ x < c.params.width) := by
  obtain ⟨⟨hwidth, _⟩, _, _, _, _, _, ⟨hcols, _⟩⟩ := c.ranges
  exact floorDiv_mul_mem_range_iff x c.params.cols c.params.width hcols hwidth

/-- A point of the display, in exact integers (R164). -/
def OnDisplay (p : Params) (x y : Int) : Prop := (0 ≤ x ∧ x < p.width) ∧ (0 ≤ y ∧ y < p.height)

theorem inGrid_iff_onDisplay (c : Instantiation) (x y : Int) : InGrid c.params x y ↔ OnDisplay c.params x y := by
  rw [InGrid, gridRow_mem_range_iff, gridCol_mem_range_iff, OnDisplay, and_comm]

theorem grid_of_onDisplay (c : Instantiation) (x y : Int) (h : OnDisplay c.params x y) :
    grid c.params x y =
      some (cellCode c.params (gridRow c.params y * c.params.cols + gridCol c.params x).toNat) :=
  if_pos ((inGrid_iff_onDisplay c x y).mpr h)

theorem grid_of_not_onDisplay (c : Instantiation) (x y : Int) (h : ¬ OnDisplay c.params x y) :
    grid c.params x y = none :=
  if_neg (mt (inGrid_iff_onDisplay c x y).mp h)

/-- On the display the reduction is the grid code, which exists. -/
theorem reduceGrid_of_onDisplay (c : Instantiation) (x y : Int) (h : OnDisplay c.params x y) :
    ∃ code, grid c.params x y = some code ∧ reduceGrid c.params x y = .code code :=
  ⟨_, grid_of_onDisplay c x y h, by rw [reduceGrid, grid_of_onDisplay c x y h]⟩

theorem reduceGrid_of_not_onDisplay (c : Instantiation) (x y : Int) (h : ¬ OnDisplay c.params x y) :
    reduceGrid c.params x y = .cellRange := by
  rw [reduceGrid, grid_of_not_onDisplay c x y h]

theorem reduceGrid_eq_cellRange_iff (c : Instantiation) (x y : Int) :
    reduceGrid c.params x y = .cellRange ↔ ¬ OnDisplay c.params x y := by
  refine ⟨fun hrange hon => ?_, reduceGrid_of_not_onDisplay c x y⟩
  obtain ⟨code, _, hcode⟩ := reduceGrid_of_onDisplay c x y hon
  cases hcode.symm.trans hrange

/-- Settles O38: the scaling's range for rows and for columns, and the grid as both together. -/
theorem gridRangeIsTheDisplay : Obligations.GridRangeIsTheDisplay := fun c x y =>
  ⟨gridRow_mem_range_iff c y, gridCol_mem_range_iff c x, reduceGrid_eq_cellRange_iff c x y⟩

/-! ### The cells and their codes (R163, R165) -/

/-- Cells counted row by row stay below the number of cells. -/
theorem rowMajor_mem_range (row col : Int) (rows cols : Nat) (hrow : 0 ≤ row ∧ row < rows)
    (hcol : 0 ≤ col ∧ col < cols) : 0 ≤ row * cols + col ∧ row * cols + col < rows * cols := by
  obtain ⟨hrow, hrow'⟩ := hrow
  have hstart : 0 ≤ row * cols := mul_nonneg hrow (by omega)
  have hend : (row + 1) * cols ≤ rows * cols := mul_le_mul_of_nonneg_right (by omega) (by omega)
  rw [add_mul, one_mul] at hend
  omega

/-- The grid code of a point of the display is that of a cell below P_ROWS * P_COLS. -/
theorem grid_eq_cellCode (c : Instantiation) (x y cell : Int) (h : OnDisplay c.params x y)
    (hcell : cell = Int.fdiv (y * c.params.rows) c.params.height * c.params.cols +
      Int.fdiv (x * c.params.cols) c.params.width) :
    grid c.params x y = some (cellCode c.params cell.toNat) ∧
      0 ≤ cell ∧ cell < c.params.rows * c.params.cols := by
  have hmodel : cell = gridRow c.params y * c.params.cols + gridCol c.params x := by
    rw [hcell, gridRow, gridCol, floorDiv_eq_fdiv _ _ (by omega), floorDiv_eq_fdiv _ _ (by omega)]
  obtain ⟨hrow, hcol⟩ := (inGrid_iff_onDisplay c x y).mpr h
  rw [hmodel]
  exact ⟨grid_of_onDisplay c x y h, rowMajor_mem_range _ _ _ _ hrow hcol⟩

/-- A legal grid has at most 255 * 255 cells, so every cell number + 1 fits CODE (00_scope.md R8). -/
theorem rows_mul_cols_le (c : Instantiation) : c.params.rows * c.params.cols ≤ 255 * 255 := by
  obtain ⟨_, _, _, _, _, ⟨_, hrows⟩, ⟨_, hcols⟩⟩ := c.ranges
  exact Nat.mul_le_mul hrows hcols

/-- Without a key table a cell's code is its number counted from 1. -/
theorem cellCode_toNat_of_no_keytab (c : Instantiation) (cell : Nat) (hkeytab : c.params.keytab = none)
    (hcell : cell < c.params.rows * c.params.cols) : (cellCode c.params cell).toNat = cell + 1 := by
  have hbound := rows_mul_cols_le c
  rw [cellCode, hkeytab]
  exact (BitVec.toNat_ofNat (cell + 1) 16).trans (Nat.mod_eq_of_lt (by omega))

/-- With a key table a cell's code is its entry, which a legal table has. -/
theorem cellCode_of_keytab (c : Instantiation) (codes : List (BitVec 16)) (cell : Nat)
    (hkeytab : c.params.keytab = some codes) (hcell : cell < c.params.rows * c.params.cols) :
    codes[cell]? = some (cellCode c.params cell) := by
  have hlong : cell < codes.length := hcell.trans_le (c.keytab_long codes hkeytab)
  rw [cellCode, hkeytab]
  simp [hlong]

/-- Settles O39: the cell is below P_ROWS * P_COLS, where both kinds of table have a code. -/
theorem gridCodeOfACell : Obligations.GridCodeOfACell := by
  intro c x y cell hx hx' hy hy' hcell
  obtain ⟨hgrid, hlow, hhigh⟩ := grid_eq_cellCode c x y cell ⟨⟨hx, hx'⟩, hy, hy'⟩ hcell
  have hnat : cell.toNat < c.params.rows * c.params.cols := by
    zify
    rwa [Int.toNat_of_nonneg hlow]
  refine ⟨fun hkeytab => ?_, fun codes hkeytab => ?_⟩
  · have hcode := cellCode_toNat_of_no_keytab c cell.toNat hkeytab hnat
    exact ⟨_, hgrid, by omega, by omega, by omega⟩
  · exact ⟨_, hgrid, cellCode_of_keytab c codes cell.toNat hkeytab hnat⟩

/-! ### ZPOLL (R162) -/

/-- Without the sensor ZPOLL faults SOURCE_ABSENT before any read (R170). -/
theorem exec_zpoll_of_ne (s : State) (hsource : s.cfg.params.source ≠ .coord) :
    exec .zpoll s = .next (s.raiseFault .sourceAbsent 0x3000) := by
  rw [← Laws.header_zpoll]
  exact congrArg _ (s.requireSource_of_ne .coord _ _ hsource)

/-- With the sensor ZPOLL reads it and settles the acquired point. -/
theorem exec_zpoll_of_eq (s : State) (hsource : s.cfg.params.source = .coord) :
    exec .zpoll s = .next (s.sampleRead.settleZone s.acquired) :=
  congrArg _ (s.requireSource_of_eq .coord _ _ hsource)

/-- Settles O37: the absent source, and what `settleZone` writes for no touch and for a touch. -/
theorem zpollReportsTheZone : Obligations.ZpollReportsTheZone := by
  intro s
  refine ⟨fun hsource => ?_, fun hsource hnone => ?_, fun x y hsource hpoint => ?_⟩
  · exact exec_zpoll_of_ne s (by simp [hsource])
  · rw [exec_zpoll_of_eq s hsource, hnone]
    rfl
  · rw [exec_zpoll_of_eq s hsource, hpoint]
    rfl

/-! ### GPOLL (R166) -/

/-- Without the sensor GPOLL faults SOURCE_ABSENT before any read (R170). -/
theorem exec_gpoll_of_ne (s : State) (hsource : s.cfg.params.source ≠ .coord) :
    exec .gpoll s = .next (s.raiseFault .sourceAbsent 0x3100) := by
  rw [← Laws.header_gpoll]
  exact congrArg _ (s.requireSource_of_ne .coord _ _ hsource)

/-- With the sensor GPOLL reads it and settles the acquired point's reduction. -/
theorem exec_gpoll_of_eq (s : State) (hsource : s.cfg.params.source = .coord) :
    exec .gpoll s =
      .next (s.sampleRead.settleReduction s.acquired 0x3100 (reduceTouch s.cfg.params s.acquired)) := by
  rw [← Laws.header_gpoll]
  exact congrArg _ (s.requireSource_of_eq .coord _ _ hsource)

theorem reduceTouch_none (p : Params) : reduceTouch p none = .noInput := rfl

theorem reduceTouch_some (p : Params) (x y : Int) : reduceTouch p (some (x, y)) = reduceGrid p x y := rfl

/-- Settles O40: the absent source, and the reduction of no touch, of a point on the display and of one off it. -/
theorem gpollReportsTheCell : Obligations.GpollReportsTheCell := by
  intro s
  refine ⟨fun hsource => ?_, fun hsource hnone => ?_, fun x y hsource hpoint hon => ?_,
    fun x y hsource hpoint hoff => ?_⟩
  · exact exec_gpoll_of_ne s (by simp [hsource])
  · rw [exec_gpoll_of_eq s hsource, hnone, reduceTouch_none]
    rfl
  · obtain ⟨code, hgrid, hreduced⟩ := reduceGrid_of_onDisplay s.cfg x y hon
    refine ⟨code, hgrid, ?_⟩
    rw [exec_gpoll_of_eq s hsource, hpoint, reduceTouch_some, hreduced]
    rfl
  · rw [exec_gpoll_of_eq s hsource, hpoint, reduceTouch_some, reduceGrid_of_not_onDisplay s.cfg x y hoff]
    rfl

/-! ### EPOLL (R167, R168) -/

/-- Without the event source EPOLL faults SOURCE_ABSENT before any read (R170). -/
theorem exec_epoll_of_ne (s : State) (hsource : s.cfg.params.source ≠ .event) :
    exec .epoll s = .next (s.raiseFault .sourceAbsent 0x3200) := by
  rw [← Laws.header_epoll]
  exact congrArg _ (s.requireSource_of_ne .event _ _ hsource)

/-- With the event source EPOLL reads it and settles the event's reduction, with no point. -/
theorem exec_epoll_of_eq (s : State) (hsource : s.cfg.params.source = .event) :
    exec .epoll s =
      .next (s.eventRead.settleReduction none 0x3200 (reduceEvent s.cfg.params s.env.nextEvent)) := by
  rw [← Laws.header_epoll]
  exact congrArg _ (s.requireSource_of_eq .event _ _ hsource)

/-- The events that carry no input: none at all, other ones, and the secondary buttons. -/
theorem reduceEvent_eq_noInput (p : Params) (e : Event)
    (he : e ∈ [.none, .notReady, .other] ∨ ∃ ex ey, e = .buttonDown false ex ey) : reduceEvent p e = .noInput := by
  simp only [List.mem_cons, List.not_mem_nil, or_false] at he
  obtain (rfl | rfl | rfl) | ⟨ex, ey, rfl⟩ := he <;> rfl

theorem reduceEvent_keyDown (p : Params) (key : BitVec 16) : reduceEvent p (.keyDown key) = .code key := rfl

/-- A primary button's position is reduced as given, without a transform. -/
theorem reduceEvent_primary (p : Params) (ex ey : BitVec 16) :
    reduceEvent p (.buttonDown true ex ey) = reduceGrid p ex.toNat ey.toNat := rfl

/-- An unsigned position is on the display exactly below both sizes. -/
theorem onDisplay_toNat_iff (p : Params) (ex ey : BitVec 16) :
    OnDisplay p ex.toNat ey.toNat ↔ ex.toNat < p.width ∧ ey.toNat < p.height := by
  unfold OnDisplay
  omega

/-- Settles O41: the absent source, and the reduction of each kind of event. -/
theorem epollReportsTheEvent : Obligations.EpollReportsTheEvent := by
  intro s
  refine ⟨fun hsource => ?_, fun hsource hevent => ?_, fun key hsource hevent => ?_,
    fun ex ey hsource hevent hx hy => ?_, fun ex ey hsource hevent hoff => ?_⟩
  · exact exec_epoll_of_ne s (by simp [hsource])
  · rw [exec_epoll_of_eq s hsource, reduceEvent_eq_noInput _ _ hevent]
    rfl
  · rw [exec_epoll_of_eq s hsource, hevent, reduceEvent_keyDown]
    rfl
  · have hon := (onDisplay_toNat_iff s.cfg.params ex ey).mpr ⟨hx, hy⟩
    obtain ⟨code, hgrid, hreduced⟩ := reduceGrid_of_onDisplay s.cfg ex.toNat ey.toNat hon
    refine ⟨code, hgrid, ?_⟩
    rw [exec_epoll_of_eq s hsource, hevent, reduceEvent_primary, hreduced]
    rfl
  · have hnot : ¬ OnDisplay s.cfg.params ex.toNat ey.toNat := by
      rw [onDisplay_toNat_iff]
      omega
    rw [exec_epoll_of_eq s hsource, hevent, reduceEvent_primary, reduceGrid_of_not_onDisplay s.cfg _ _ hnot]
    rfl

end Sys2Proof.Proofs

/-! PROOFS. Faults (60_exceptions.md): the recorded causes, what fault entry writes, the halted engine. -/

namespace Sys2Proof.Proofs

open Sys2Proof.Machine Sys2Proof.Config

/-! ### The recorded causes (R190) -/

theorem faultCause_code_range (c : FaultCause) : 1 ≤ c.code.toNat ∧ c.code.toNat ≤ 6 := by
  cases c <;> decide

/-- Fault entry makes the record sound, whatever it was. -/
theorem raiseFault_faultRecordSound (s : State) (c : FaultCause) (h : Word) : (s.raiseFault c h).FaultRecordSound :=
  have ⟨hpos, hle⟩ := faultCause_code_range c
  ⟨hle, fun _ => hpos⟩

/-- Only fault entry writes FAULTED and the cause: transactions, the mask and a poll's results leave both. -/
theorem exec_next_faultsAs_or_record_eq (i : Instr) (s t : State) (h : exec i s = .next t) :
    FaultsAs i s t ∨ (t.faulted = s.faulted ∧ t.fcause = s.fcause) := by
  rcases exec_next_cases i s t h with hfault | htransact | hmask | hpoll
  · exact .inl hfault
  · obtain ⟨v, ts, _, _, _, _, rfl⟩ | ⟨_, rfl⟩ | ⟨x, y, w, hh, buf, _, _, rfl⟩ := htransact <;> simp
  · obtain ⟨d, _, rfl⟩ | ⟨m, _, rfl⟩ := hmask <;> exact .inr ⟨rfl, rfl⟩
  · obtain ⟨e, point, code, rfl, _⟩ := hpoll
    simp

theorem exec_next_faultRecordSound (i : Instr) (s t : State) (hrecord : s.FaultRecordSound)
    (h : exec i s = .next t) : t.FaultRecordSound := by
  rcases exec_next_faultsAs_or_record_eq i s t h with ⟨c, e, rfl, _⟩ | ⟨hfaulted, hfcause⟩
  · exact raiseFault_faultRecordSound _ c i.header
  · rw [State.FaultRecordSound, hfaulted, hfcause]
    exact hrecord

/-- Settles O46: a command and an illegal header record one of the six causes or leave the record, and collecting
words leaves it. -/
theorem stepKeepsTheFaultRecordSound : Obligations.StepKeepsTheFaultRecordSound := by
  intro s t hrecord hstep
  obtain ⟨_, ⟨i, rest, _, hexec⟩ | ⟨why, h, rest, _, rfl⟩ | ⟨_, _, rfl⟩⟩ := step_next_cases s t hstep
  · exact exec_next_faultRecordSound i (s.consumed rest) t hrecord hexec
  · exact raiseFault_faultRecordSound (s.consumed rest) .illegalCmd h
  · exact hrecord

/-! ### Fault entry (R191) -/

/-- CELL_RANGE is the fault of the two polls that reduce to the grid, after their read (R166, R168). -/
theorem cellRange_header_env (i : Instr) (s : State) (e : Env)
    (h : (i = .gpoll ∧ e = s.env.afterSample) ∨ (i = .epoll ∧ e = s.env.afterEvent)) :
    (i.header = 0x3100 ∧ e = s.env.afterSample) ∨ (i.header = 0x3200 ∧ e = s.env.afterEvent) :=
  h.imp (fun ⟨hi, he⟩ => ⟨hi ▸ Laws.header_gpoll, he⟩) (fun ⟨hi, he⟩ => ⟨hi ▸ Laws.header_epoll, he⟩)

/-- Settles O53: FAULTED becomes 1 by a command that faults, whose first word is its header (R75), or by an illegal
header; collecting words leaves FAULTED at 0. -/
theorem faultEntryIsPrecise : Obligations.FaultEntryIsPrecise := by
  intro s t hstep ht
  obtain ⟨hs, ⟨i, rest, hdecode, hexec⟩ | ⟨why, h, rest, hdecode, rfl⟩ | ⟨_, _, rfl⟩⟩ := step_next_cases s t hstep
  · obtain ⟨c, e, rfl, hcause, hkept, hread⟩ := faultsAs_of_faulted i (s.consumed rest) t hs hexec ht
    exact ⟨c, i.header, i.operands ++ rest, rest, e, (decode_eq_command_iff _ _ _).mp hdecode,
      .inl ⟨hcause, i, hdecode⟩, rfl, hkept, fun hc => cellRange_header_env i s e (hread hc)⟩
  · exact ⟨.illegalCmd, h, rest, rest, s.env, decode_illegal_eq _ rest why h hdecode,
      .inr ⟨rfl, rfl, why, hdecode⟩, rfl, fun _ => rfl, nofun⟩
  · cases hs.symm.trans ht

/-! ### The halted engine (R192) -/

theorem step_of_faulted (s : State) (hs : s.faulted = true) : step s = .fault .halted := if_pos hs

/-- Settles O11: the host's writes leave FAULTED, so the engine they meet is still halted. -/
theorem haltedEngineHasNoStep : Obligations.HaltedEngineHasNoStep := fun s words hs =>
  have hhalted : (hostWriteAll words s).faulted = true := (hostWriteAll_faulted words s).trans hs
  ⟨step_of_faulted _ hhalted, hostWriteAll_port words s, hhalted, hostReset_faulted s⟩

end Sys2Proof.Proofs

/-! PROOFS. Reset (70_reset_and_hazards.md): what the reset input sets, and what it keeps. -/

namespace Sys2Proof.Proofs

open Sys2Proof.Machine Sys2Proof.Config

/-! ### The reset input (R220, R221) -/

/-- Settles O55: the elements are those of `resetOf` with the state's own parameters, so the parameter-valued ones
read as R36's integers; the parameters, the draws and the history are outside the reset (log 8). -/
theorem resetInputRestoresTheResetState : Obligations.ResetInputRestoresTheResetState := by
  intro s
  have horient : (hostReset s).orient.toInt = s.cfg.params.orientReset := resetOf_orient_toInt s.cfg
  have hmaxx : (hostReset s).maxx.toInt = (s.cfg.params.width : Int) - 1 := maxXOf_toInt s.cfg
  have hmaxy : (hostReset s).maxy.toInt = (s.cfg.params.height : Int) - 1 := maxYOf_toInt s.cfg
  exact ⟨horient, hmaxx, hmaxy, (hostReset s).orient, (hostReset s).maxx, (hostReset s).maxy, rfl⟩

end Sys2Proof.Proofs

/-! PROOFS. The rows of the opcode table (30_encoding.md): the step after a row's words are placed. -/

namespace Sys2Proof.Proofs

open Sys2Proof.Machine

/-! ### A row's words as the next command (R75) -/

/-- Words after a complete command do not change what it decodes to: they are left behind its own rest (R75). -/
theorem decode_append_of_command (words more rest : List Word) (i : Instr) (hdecode : decode words = .command i rest) :
    decode (words ++ more) = .command i (rest ++ more) := by
  rw [decode_eq_command_iff] at hdecode ⊢
  rw [hdecode, List.append_assoc]

/-- The command the decoder reads from a row is the one its words begin with. -/
theorem decodeTableWord_eq_some_iff (nbits w : Nat) (i : Instr) :
    decodeTableWord nbits w = some i ↔ ∃ rest, decode (tableWords nbits w) = .command i rest := by
  unfold decodeTableWord
  cases decode (tableWords nbits w) <;> simp

/-- Placing a row's words makes them the front of the stream, and they displace as many words at the port (log 7). -/
theorem stream_withFetchWord (s : State) (nbits w : Nat) :
    (s.withFetchWord nbits w).stream = tableWords nbits w ++ s.port.drop (tableWords nbits w).length := rfl

/-- Settles O10: the row's words are the front of the stream, so the command they decode to is the step's; placing
them changes the buffer and the port only, which consuming the command writes again. -/
theorem tableRowRunsAsNextStep : Obligations.TableRowRunsAsNextStep := by
  intro s nbits w i hs hrow
  obtain ⟨rest, hdecode⟩ := (decodeTableWord_eq_some_iff nbits w i).mp hrow
  have hstream : decode (s.withFetchWord nbits w).stream =
      .command i (rest ++ s.port.drop (tableWords nbits w).length) := by
    rw [stream_withFetchWord, decode_append_of_command _ _ rest i hdecode]
  exact ⟨_, step_of_command (s.withFetchWord nbits w) i _ hs hstream⟩

end Sys2Proof.Proofs
